-- ==== Sys2Proof/Word.lean ====
section
/-! DEFINITION. The words of CORE: the byte, and the fixed-width registers the spec gives widths to. -/

namespace Sys2Proof

/-- One byte of the input stream, of the window, of a buffer or of the output (R70, R72, R84). -/
abbrev Byte := BitVec 8

/-- The bit accumulator ACC, `ACC_WIDTH` = 64 bits (R8, R36). -/
abbrev AccWord := BitVec 64

/-- A window address or the write cursor WIN_POS: 15 bits, so that its arithmetic wraps modulo 32768 (R39, R74). -/
abbrev WinAddr := BitVec 15

/-- A 16-bit stored-block count: LEN, NLEN, STORED_REM (R33, R103). -/
abbrev Count16 := BitVec 16

end Sys2Proof
end

