-- ==== Sys2Proof/Config.lean ====
section
/-! DEFINITION. The implementation parameters whose value rule R8 fixes for this hardware, the defaults of the others
(those a construction chooses are fields of `Machine.Params`), and the one free value. -/

namespace Sys2Proof.Config

/-- `WIN_SIZE` (R8): the window holds 32768 bytes. -/
def winSize : Nat := 32768

/-- `STAGE_CAP` (R8, R80): the staging buffer holds 257 bytes. -/
def stageCap : Nat := 257

/-- `ACC_WIDTH` (R8, R36). -/
def accWidth : Nat := 64

/-- `MAX_CODE_LEN` (R8, R180): a code word has at most 15 bits. -/
def maxCodeLen : Nat := 15

/-- `READ_MAX` (R8, R130): the largest READ count, 2^31 - 1. -/
def readMax : Nat := 2147483647

/-- The default of `IN_CAP` (R8). -/
def inCapDefault : Nat := 4096

/-- The default of `TABLE_BITS` (R8). -/
def tableBitsDefault : Nat := 9

/-- `TOO_FAR` = `ZERO` (R8, R272): what a window slot reads as while nothing has been written to it since reset or
ATTACH. It is the reset content of the whole window (R53). -/
def tooFar : Byte := 0#8

/-- FREE VALUE (log entry 1). What an element of INBUF or STAGE holds where nothing has been written to it: R53 and R381
call that content "unspecified (never read before written)". It has no body: nothing can be proved of its value. -/
opaque unspecifiedByte : Nat → Byte

end Sys2Proof.Config
end

