-- ==== Sys2Proof/Syntax.lean ====
section
/-! DEFINITION. The elements CORE executes: one constructor of `Instr` per row of spec/opcode_table.json, carrying the
fields the row's value has (R124), and the eight formats of those rows. -/

namespace Sys2Proof

/-- The format of an element's value (R124): which kind of value the decoder reads in the current state. -/
inductive Format where
  /-- `h = ReadBits(3)` (R101). -/
  | blockHeader
  /-- `LEN | (NLEN << 16)`, read after alignment. -/
  | storedHeader
  /-- One 8-bit data byte of a stored block. -/
  | storedByte
  /-- `HLIT | (HDIST << 5) | (HCLEN << 10)`. -/
  | dynamicHeader
  /-- A decoded code-length symbol. -/
  | clenSymbol
  /-- A decoded literal/length symbol. -/
  | litlenSymbol
  /-- A decoded distance symbol. -/
  | distSymbol
  /-- A host command: the 2-bit code, READ's 31-bit count above it. -/
  | command
  deriving DecidableEq, Repr

/-- The model's number for DUMMY, "a distinct value that is not a symbol number" (R342): the distance alphabet is 0..31.
DESIGN CHOICE (log entry 2). -/
def dummySym : Nat := 32

/-- The elements and commands of spec/opcode_table.json, one constructor per row, in the table's order. -/
inductive Instr where
  /-- BLOCK_STORED. Header of a stored block, BTYPE = 0 (R101, R212). -/
  | blockStored (final : Bool)
  /-- BLOCK_FIXED. Header of a fixed-Huffman block, BTYPE = 1 (R101, R214). -/
  | blockFixed (final : Bool)
  /-- BLOCK_DYNAMIC. Header of a dynamic-Huffman block, BTYPE = 2 (R101, R215). -/
  | blockDynamic (final : Bool)
  /-- BLOCK_RESERVED. Header with the reserved BTYPE = 3 (R101, R216). -/
  | blockReserved (final : Bool)
  /-- STORED_HEADER. LEN and NLEN of a stored block (R103, R212). -/
  | storedHeader (len nlen : Count16)
  /-- STORED_BYTE. One data byte of a stored block (R217). -/
  | storedByte (b : Byte)
  /-- DYNAMIC_HEADER. HLIT, HDIST, HCLEN as stored, not biased (R105, R220); its meaning reads the code-length-code lengths (R221). -/
  | dynamicHeader (hlit hdist : BitVec 5) (hclen : BitVec 4)
  /-- CL_LEN. CL symbols 0..15: one code length (R107, R223). -/
  | clLen (len : BitVec 4)
  /-- CL_REPEAT_PREV. CL symbol 16: repeat the previous length (R224). -/
  | clRepeatPrev
  /-- CL_ZERO_SHORT. CL symbol 17: a short run of zero lengths (R225). -/
  | clZeroShort
  /-- CL_ZERO_LONG. CL symbol 18: a long run of zero lengths (R226). -/
  | clZeroLong
  /-- LIT. Literal/length symbols 0..255: a literal byte (R252). -/
  | lit (b : Byte)
  /-- EOB. Literal/length symbol 256: end of block (R251). -/
  | eob
  /-- LEN_257. Length symbol 257 (R112, R253). -/
  | len257
  /-- LEN_258. Length symbol 258 (R112, R253). -/
  | len258
  /-- LEN_259. Length symbol 259 (R112, R253). -/
  | len259
  /-- LEN_260. Length symbol 260 (R112, R253). -/
  | len260
  /-- LEN_261. Length symbol 261 (R112, R253). -/
  | len261
  /-- LEN_262. Length symbol 262 (R112, R253). -/
  | len262
  /-- LEN_263. Length symbol 263 (R112, R253). -/
  | len263
  /-- LEN_264. Length symbol 264 (R112, R253). -/
  | len264
  /-- LEN_265. Length symbol 265 (R112, R253). -/
  | len265
  /-- LEN_266. Length symbol 266 (R112, R253). -/
  | len266
  /-- LEN_267. Length symbol 267 (R112, R253). -/
  | len267
  /-- LEN_268. Length symbol 268 (R112, R253). -/
  | len268
  /-- LEN_269. Length symbol 269 (R112, R253). -/
  | len269
  /-- LEN_270. Length symbol 270 (R112, R253). -/
  | len270
  /-- LEN_271. Length symbol 271 (R112, R253). -/
  | len271
  /-- LEN_272. Length symbol 272 (R112, R253). -/
  | len272
  /-- LEN_273. Length symbol 273 (R112, R253). -/
  | len273
  /-- LEN_274. Length symbol 274 (R112, R253). -/
  | len274
  /-- LEN_275. Length symbol 275 (R112, R253). -/
  | len275
  /-- LEN_276. Length symbol 276 (R112, R253). -/
  | len276
  /-- LEN_277. Length symbol 277 (R112, R253). -/
  | len277
  /-- LEN_278. Length symbol 278 (R112, R253). -/
  | len278
  /-- LEN_279. Length symbol 279 (R112, R253). -/
  | len279
  /-- LEN_280. Length symbol 280 (R112, R253). -/
  | len280
  /-- LEN_281. Length symbol 281 (R112, R253). -/
  | len281
  /-- LEN_282. Length symbol 282 (R112, R253). -/
  | len282
  /-- LEN_283. Length symbol 283 (R112, R253). -/
  | len283
  /-- LEN_284. Length symbol 284 (R112, R253). -/
  | len284
  /-- LEN_285. Length symbol 285 (R112, R253). -/
  | len285
  /-- LEN_RESERVED. The reserved literal/length symbols, `sym` being 286 or 287 (R256). -/
  | lenReserved (sym : Nat)
  /-- DIST_0. Distance symbol 0 (R113, R255). -/
  | dist0
  /-- DIST_1. Distance symbol 1 (R113, R255). -/
  | dist1
  /-- DIST_2. Distance symbol 2 (R113, R255). -/
  | dist2
  /-- DIST_3. Distance symbol 3 (R113, R255). -/
  | dist3
  /-- DIST_4. Distance symbol 4 (R113, R255). -/
  | dist4
  /-- DIST_5. Distance symbol 5 (R113, R255). -/
  | dist5
  /-- DIST_6. Distance symbol 6 (R113, R255). -/
  | dist6
  /-- DIST_7. Distance symbol 7 (R113, R255). -/
  | dist7
  /-- DIST_8. Distance symbol 8 (R113, R255). -/
  | dist8
  /-- DIST_9. Distance symbol 9 (R113, R255). -/
  | dist9
  /-- DIST_10. Distance symbol 10 (R113, R255). -/
  | dist10
  /-- DIST_11. Distance symbol 11 (R113, R255). -/
  | dist11
  /-- DIST_12. Distance symbol 12 (R113, R255). -/
  | dist12
  /-- DIST_13. Distance symbol 13 (R113, R255). -/
  | dist13
  /-- DIST_14. Distance symbol 14 (R113, R255). -/
  | dist14
  /-- DIST_15. Distance symbol 15 (R113, R255). -/
  | dist15
  /-- DIST_16. Distance symbol 16 (R113, R255). -/
  | dist16
  /-- DIST_17. Distance symbol 17 (R113, R255). -/
  | dist17
  /-- DIST_18. Distance symbol 18 (R113, R255). -/
  | dist18
  /-- DIST_19. Distance symbol 19 (R113, R255). -/
  | dist19
  /-- DIST_20. Distance symbol 20 (R113, R255). -/
  | dist20
  /-- DIST_21. Distance symbol 21 (R113, R255). -/
  | dist21
  /-- DIST_22. Distance symbol 22 (R113, R255). -/
  | dist22
  /-- DIST_23. Distance symbol 23 (R113, R255). -/
  | dist23
  /-- DIST_24. Distance symbol 24 (R113, R255). -/
  | dist24
  /-- DIST_25. Distance symbol 25 (R113, R255). -/
  | dist25
  /-- DIST_26. Distance symbol 26 (R113, R255). -/
  | dist26
  /-- DIST_27. Distance symbol 27 (R113, R255). -/
  | dist27
  /-- DIST_28. Distance symbol 28 (R113, R255). -/
  | dist28
  /-- DIST_29. Distance symbol 29 (R113, R255). -/
  | dist29
  /-- DIST_RESERVED. The reserved distance symbols: `sym` is 30 or 31, or `dummySym` for the DUMMY leaf of R186 (R258). -/
  | distReserved (sym : Nat)
  /-- CMD_READ. READ count (R130, R300); count at most READ_MAX. -/
  | cmdRead (count : Nat)
  /-- CMD_DETACH. DETACH (R130, R310). -/
  | cmdDetach
  /-- CMD_ATTACH. ATTACH (R130, R315). -/
  | cmdAttach
  /-- CMD_CLOSE. CLOSE (R130, R320). -/
  | cmdClose
  deriving DecidableEq, Repr

end Sys2Proof
end

