-- ==== Sys2Proof/Decode.lean ====
section
/-! DEFINITION. Reading an element's value (R124) as an instruction, the opcode table's rows, and after them the encoder:
the value of an instruction, the code words of the Huffman codes and the stream bits of a field. The decoder is total and
rejects by name. -/

namespace Sys2Proof

/-! ## The decoder -/

/-- Why a value of a format is no element. -/
inductive Reject where
  /-- The value has more bits than the format. -/
  | valueTooWide
  /-- A symbol number outside the format's alphabet (R107, R108, R109). -/
  | symbolOutOfAlphabet
  deriving DecidableEq, Repr

/-- How many bits the value of a format has (R101, R105, R124, R130). -/
def Format.width : Format → Nat
  | .blockHeader => 3
  | .storedHeader => 32
  | .storedByte => 8
  | .dynamicHeader => 14
  | .clenSymbol => 5
  | .litlenSymbol => 9
  | .distSymbol => 5
  | .command => 33

/-- The length symbols 257..285 in order. -/
def lengthInstrs : List Instr :=
  [.len257, .len258, .len259, .len260, .len261, .len262, .len263, .len264, .len265, .len266, .len267, .len268, .len269, .len270, .len271,
   .len272, .len273, .len274, .len275, .len276, .len277, .len278, .len279, .len280, .len281, .len282, .len283, .len284, .len285]

/-- The distance symbols 0..29 in order. -/
def distanceInstrs : List Instr :=
  [.dist0, .dist1, .dist2, .dist3, .dist4, .dist5, .dist6, .dist7, .dist8, .dist9, .dist10, .dist11, .dist12, .dist13, .dist14,
   .dist15, .dist16, .dist17, .dist18, .dist19, .dist20, .dist21, .dist22, .dist23, .dist24, .dist25, .dist26, .dist27, .dist28, .dist29]

/-- `h = ReadBits(3)`: BFINAL = h[0], BTYPE = h[2:1] (R101, R102). -/
def decodeBlockHeader (h : Nat) : Except Reject Instr :=
  match h / 2 with
  | 0 => .ok (.blockStored (h.testBit 0))
  | 1 => .ok (.blockFixed (h.testBit 0))
  | 2 => .ok (.blockDynamic (h.testBit 0))
  | 3 => .ok (.blockReserved (h.testBit 0))
  | _ => .error .valueTooWide

/-- `LEN | (NLEN << 16)` (R103, R124). -/
def decodeStoredHeader (v : Nat) : Except Reject Instr :=
  if v < 4294967296 then .ok (.storedHeader (BitVec.ofNat 16 v) (BitVec.ofNat 16 (v / 65536))) else .error .valueTooWide

/-- One stored data byte (R217). -/
def decodeStoredByte (v : Nat) : Except Reject Instr :=
  if v < 256 then .ok (.storedByte (BitVec.ofNat 8 v)) else .error .valueTooWide

/-- `HLIT | (HDIST << 5) | (HCLEN << 10)` (R105, R124). -/
def decodeDynamicHeader (v : Nat) : Except Reject Instr :=
  if v < 16384 then
    .ok (.dynamicHeader (BitVec.ofNat 5 v) (BitVec.ofNat 5 (v / 32)) (BitVec.ofNat 4 (v / 1024)))
  else .error .valueTooWide

/-- A code-length symbol (R107). -/
def decodeClen (s : Nat) : Except Reject Instr :=
  if s < 16 then .ok (.clLen (BitVec.ofNat 4 s))
  else match s with
    | 16 => .ok .clRepeatPrev
    | 17 => .ok .clZeroShort
    | 18 => .ok .clZeroLong
    | _ => .error .symbolOutOfAlphabet

/-- A literal/length symbol (R108, R250, R256). -/
def decodeLitlen (s : Nat) : Except Reject Instr :=
  if s < 256 then .ok (.lit (BitVec.ofNat 8 s))
  else if s = 256 then .ok .eob
  else if s = 286 ∨ s = 287 then .ok (.lenReserved s)
  else match lengthInstrs[s - 257]? with
    | some i => .ok i
    | none => .error .symbolOutOfAlphabet

/-- A distance symbol, or DUMMY (R109, R255, R258). -/
def decodeDist (s : Nat) : Except Reject Instr :=
  if s = 30 ∨ s = 31 ∨ s = dummySym then .ok (.distReserved s)
  else match distanceInstrs[s]? with
    | some i => .ok i
    | none => .error .symbolOutOfAlphabet

/-- A command word: the 2-bit code in its low bits and READ's 31-bit count above them (R130; layout: log entry 3). -/
def decodeCommand (v : Nat) : Except Reject Instr :=
  if v < 8589934592 then
    match v % 4 with
    | 0 => .ok (.cmdRead (v / 4))
    | 1 => .ok .cmdDetach
    | 2 => .ok .cmdAttach
    | _ => .ok .cmdClose
  else .error .valueTooWide

/-- The element a value of a format is (R124). -/
def decode (f : Format) (v : Nat) : Except Reject Instr :=
  match f with
  | .blockHeader => decodeBlockHeader v
  | .storedHeader => decodeStoredHeader v
  | .storedByte => decodeStoredByte v
  | .dynamicHeader => decodeDynamicHeader v
  | .clenSymbol => decodeClen v
  | .litlenSymbol => decodeLitlen v
  | .distSymbol => decodeDist v
  | .command => decodeCommand v

/-- The format a bare table word is read in (log entry 4). The spec's decoder knows the format from the machine's state
(R124); a word of the table carries only its width, and the formats overlap. A width that is one format's own picks that
format; among the formats that fill whole bytes the symbol alphabets come first, then the format as wide as the word. -/
def tableFormat (nbits w : Nat) : Format :=
  match nbits with
  | 2 => .command
  | 3 => .blockHeader
  | 5 => .distSymbol
  | 8 => if w < 32 then .distSymbol else .storedByte
  | 9 => .litlenSymbol
  | 14 => .dynamicHeader
  | 16 => if w < 288 then .litlenSymbol else .dynamicHeader
  | 32 => .storedHeader
  | _ => .command

/-- The instruction of a table word of `nbits` bits, in the format `tableFormat` picks. -/
def decodeTableWord (nbits w : Nat) : Option Instr :=
  match decode (tableFormat nbits w) w with
  | .ok i => some i
  | .error _ => none

/-! ## The opcode table's rows and the encoder -/

/-- A row of spec/opcode_table.json: an element of the format is selected when `value & mask = match` (R124). -/
structure OpRow where
  format : Format
  pattern : Nat
  mask : Nat
  deriving DecidableEq, Repr

/-- Each instruction's row of spec/opcode_table.json. -/
def Instr.row : Instr → OpRow
  | .blockStored _ => ⟨.blockHeader, 0, 6⟩
  | .blockFixed _ => ⟨.blockHeader, 2, 6⟩
  | .blockDynamic _ => ⟨.blockHeader, 4, 6⟩
  | .blockReserved _ => ⟨.blockHeader, 6, 6⟩
  | .storedHeader _ _ => ⟨.storedHeader, 0, 0⟩
  | .storedByte _ => ⟨.storedByte, 0, 0⟩
  | .dynamicHeader _ _ _ => ⟨.dynamicHeader, 0, 0⟩
  | .clLen _ => ⟨.clenSymbol, 0, 16⟩
  | .clRepeatPrev => ⟨.clenSymbol, 16, 31⟩
  | .clZeroShort => ⟨.clenSymbol, 17, 31⟩
  | .clZeroLong => ⟨.clenSymbol, 18, 31⟩
  | .lit _ => ⟨.litlenSymbol, 0, 256⟩
  | .eob => ⟨.litlenSymbol, 256, 511⟩
  | .len257 => ⟨.litlenSymbol, 257, 511⟩
  | .len258 => ⟨.litlenSymbol, 258, 511⟩
  | .len259 => ⟨.litlenSymbol, 259, 511⟩
  | .len260 => ⟨.litlenSymbol, 260, 511⟩
  | .len261 => ⟨.litlenSymbol, 261, 511⟩
  | .len262 => ⟨.litlenSymbol, 262, 511⟩
  | .len263 => ⟨.litlenSymbol, 263, 511⟩
  | .len264 => ⟨.litlenSymbol, 264, 511⟩
  | .len265 => ⟨.litlenSymbol, 265, 511⟩
  | .len266 => ⟨.litlenSymbol, 266, 511⟩
  | .len267 => ⟨.litlenSymbol, 267, 511⟩
  | .len268 => ⟨.litlenSymbol, 268, 511⟩
  | .len269 => ⟨.litlenSymbol, 269, 511⟩
  | .len270 => ⟨.litlenSymbol, 270, 511⟩
  | .len271 => ⟨.litlenSymbol, 271, 511⟩
  | .len272 => ⟨.litlenSymbol, 272, 511⟩
  | .len273 => ⟨.litlenSymbol, 273, 511⟩
  | .len274 => ⟨.litlenSymbol, 274, 511⟩
  | .len275 => ⟨.litlenSymbol, 275, 511⟩
  | .len276 => ⟨.litlenSymbol, 276, 511⟩
  | .len277 => ⟨.litlenSymbol, 277, 511⟩
  | .len278 => ⟨.litlenSymbol, 278, 511⟩
  | .len279 => ⟨.litlenSymbol, 279, 511⟩
  | .len280 => ⟨.litlenSymbol, 280, 511⟩
  | .len281 => ⟨.litlenSymbol, 281, 511⟩
  | .len282 => ⟨.litlenSymbol, 282, 511⟩
  | .len283 => ⟨.litlenSymbol, 283, 511⟩
  | .len284 => ⟨.litlenSymbol, 284, 511⟩
  | .len285 => ⟨.litlenSymbol, 285, 511⟩
  | .lenReserved _ => ⟨.litlenSymbol, 286, 510⟩
  | .dist0 => ⟨.distSymbol, 0, 31⟩
  | .dist1 => ⟨.distSymbol, 1, 31⟩
  | .dist2 => ⟨.distSymbol, 2, 31⟩
  | .dist3 => ⟨.distSymbol, 3, 31⟩
  | .dist4 => ⟨.distSymbol, 4, 31⟩
  | .dist5 => ⟨.distSymbol, 5, 31⟩
  | .dist6 => ⟨.distSymbol, 6, 31⟩
  | .dist7 => ⟨.distSymbol, 7, 31⟩
  | .dist8 => ⟨.distSymbol, 8, 31⟩
  | .dist9 => ⟨.distSymbol, 9, 31⟩
  | .dist10 => ⟨.distSymbol, 10, 31⟩
  | .dist11 => ⟨.distSymbol, 11, 31⟩
  | .dist12 => ⟨.distSymbol, 12, 31⟩
  | .dist13 => ⟨.distSymbol, 13, 31⟩
  | .dist14 => ⟨.distSymbol, 14, 31⟩
  | .dist15 => ⟨.distSymbol, 15, 31⟩
  | .dist16 => ⟨.distSymbol, 16, 31⟩
  | .dist17 => ⟨.distSymbol, 17, 31⟩
  | .dist18 => ⟨.distSymbol, 18, 31⟩
  | .dist19 => ⟨.distSymbol, 19, 31⟩
  | .dist20 => ⟨.distSymbol, 20, 31⟩
  | .dist21 => ⟨.distSymbol, 21, 31⟩
  | .dist22 => ⟨.distSymbol, 22, 31⟩
  | .dist23 => ⟨.distSymbol, 23, 31⟩
  | .dist24 => ⟨.distSymbol, 24, 31⟩
  | .dist25 => ⟨.distSymbol, 25, 31⟩
  | .dist26 => ⟨.distSymbol, 26, 31⟩
  | .dist27 => ⟨.distSymbol, 27, 31⟩
  | .dist28 => ⟨.distSymbol, 28, 31⟩
  | .dist29 => ⟨.distSymbol, 29, 31⟩
  | .distReserved _ => ⟨.distSymbol, 30, 30⟩
  | .cmdRead _ => ⟨.command, 0, 3⟩
  | .cmdDetach => ⟨.command, 1, 3⟩
  | .cmdAttach => ⟨.command, 2, 3⟩
  | .cmdClose => ⟨.command, 3, 3⟩

/-- The bits of an instruction's value that are fields, placed as R101, R103, R105, R107, R108 and R130 place them. -/
def Instr.fieldBits : Instr → Nat
  | .blockStored f | .blockFixed f | .blockDynamic f | .blockReserved f => f.toNat
  | .storedHeader len nlen => len.toNat + 65536 * nlen.toNat
  | .storedByte b | .lit b => b.toNat
  | .dynamicHeader hlit hdist hclen => hlit.toNat + 32 * hdist.toNat + 1024 * hclen.toNat
  | .clLen len => len.toNat
  | .lenReserved sym => sym - 286
  | .distReserved sym => sym - 30
  | .cmdRead count => 4 * count
  | _ => 0

/-- The format and the value of an instruction: its row's pattern with its fields put in. -/
def encode (i : Instr) : Format × Nat := (i.row.format, i.row.pattern + i.fieldBits)

/-- The code lengths of the fixed literal/length code (R118). -/
def fixedLitlenLens : List Nat :=
  List.replicate 144 8 ++ List.replicate 112 9 ++ List.replicate 24 7 ++ List.replicate 8 8

/-- The code lengths of the fixed distance code (R118). -/
def fixedDistLens : List Nat := List.replicate 32 5

/-- How many symbols have code length `l`; none for length 0 (R193's `bl_count`). -/
def lengthCount (lens : List Nat) (l : Nat) : Nat := if l = 0 then 0 else lens.count l

/-- The first code word of each length, as a number (R193's `next_code`). -/
def firstCode (lens : List Nat) : Nat → Nat
  | 0 => 0
  | l + 1 => 2 * (firstCode lens l + lengthCount lens l)

/-- The `n` low bits of `v`, the most significant first: the order a code word is read in (R14, R193). -/
def bitsMsbFirst (n v : Nat) : List Bool := (List.range n).map fun j => v.testBit (n - 1 - j)

/-- The `n` low bits of `v`, the least significant first: the order a field is read in (R75). -/
def bitsLsbFirst (n v : Nat) : List Bool := (List.range n).map v.testBit

/-- The code word of symbol `s` in the canonical code of `lens`, in stream order (R193); none for an absent symbol. -/
def codeWord (lens : List Nat) (s : Nat) : Option (List Bool) :=
  match lens[s]? with
  | none | some 0 => none
  | some l => some (bitsMsbFirst l (firstCode lens l + (lens.take s).count l))

/-- The integer whose bits, least significant first, are the given stream bits: what the bits are in ACC (R36, R152). -/
def packBits : List Bool → Nat
  | [] => 0
  | b :: bs => b.toNat + 2 * packBits bs

end Sys2Proof
end

