-- ==== Sys2Proof/Machine/State.lean ====
section
/-! DEFINITION. The state of CORE as plain data: the spec's own elements (R30 to R45), the byte source and the command
port as the transactions the model still has to serve (R60 to R66), and the work of a step in progress. -/

namespace Sys2Proof.Machine

/-! ## Control state -/

/-- MODE (R30); the numbers are `Mode.number`. -/
inductive Mode where
  | idle
  | stored
  | huff
  | error
  | passthru
  | released
  | closed
  deriving DecidableEq, Repr

/-- The kind of a code (R180, R185). -/
inductive CodeKind where
  | clen
  | litlen
  | dist
  deriving DecidableEq, Repr

/-- The cause codes (R341); the numbers are `Cause.number`. -/
inductive Cause where
  | noError
  | reservedBtype
  | storedLen
  | huffOversub
  | huffIncomplete
  | reservedLitlen
  | reservedDist
  | noDistCode
  | clenNoPrev
  | clenOverflow
  | unexpectedEos
  | io
  | useClosed
  | useAttachNotDetached
  | useDetachTwice
  | useReadReleased
  deriving DecidableEq, Repr

/-- ERR.info (R342). The payload of an I/O error is opaque and carried verbatim; it is held as a list of bytes. -/
inductive ErrInfo where
  | empty
  | lengths (len nlen : Count16)
  | kind (k : CodeKind)
  | symbol (s : Nat)
  | dummy
  | payload (bytes : List Byte)
  deriving DecidableEq, Repr

/-- ERR (R35). -/
structure ErrRecord where
  code : Cause
  info : ErrInfo
  deriving DecidableEq, Repr

/-! ## The byte source -/

/-- What a request for bytes past the source's last byte is answered with (R60, R61). -/
inductive SrcEnd where
  /-- END, now and at every later request (D43). -/
  | endOfData
  /-- IOERR with its payload. -/
  | ioError (payload : List Byte)
  /-- No answer, ever (R61, R359). -/
  | silent
  deriving DecidableEq, Repr

/-- A transaction CORE issued on the source ports (R60, R64). -/
inductive SrcTxn where
  | request (m : Nat)
  | unread (k : Nat)
  deriving DecidableEq, Repr

/-- The byte source CORE is bound to (R60, R381): outside CORE, held as the input the model reads. It holds finitely many
bytes, where R48 and R359 let a stream go on without end (DESIGN CHOICE, log entry 24). -/
structure Source where
  /-- All the bytes the source has, in order. -/
  data : List Byte
  /-- The source position: how many of them it has delivered. -/
  pos : Nat
  /-- How many bytes each coming DATA answer is to hold, the source's own choice (R60); log entry 5. -/
  draws : List Nat
  /-- What follows the last byte. -/
  ending : SrcEnd
  /-- The requests and rewinds CORE has issued, oldest first. -/
  txns : List SrcTxn
  /-- Whether CLOSE has closed the source, which it does only under CLOSE_RELEASES_SOURCE (R320). -/
  closed : Bool
  deriving DecidableEq, Repr

/-! ## Input buffering -/

/-- The bit and byte input layer (R36 to R38), with the byte source it draws on and the count of what that has delivered
(R48). -/
structure Input where
  /-- ACC. -/
  acc : AccWord
  /-- ACC_N, 0..63. -/
  accN : Nat
  /-- INBUF, as far as it is written. -/
  inbuf : List Byte
  /-- IN_FILL. -/
  inFill : Nat
  /-- IN_POS. -/
  inPos : Nat
  /-- The bytes of a direct stored-data answer (R158) that no stored-byte step has taken yet. -/
  direct : List Byte
  /-- B_recv, the bytes the source has delivered since reset or since the rewind of R313 (R48). -/
  recv : Nat
  src : Source
  deriving DecidableEq, Repr

/-! ## Window and code tables -/

/-- A byte memory: address and byte, addresses strictly rising, no byte equal to `Config.tooFar`, what an unlisted address
reads as. -/
abbrev Memory := List Host.Cell

/-- A slot of a code tree (R44): a child node, a symbol, the DUMMY leaf of R186, or a slot still open (only while the tree
is being built, R183). -/
inductive Slot where
  | opn
  | leaf (s : Nat)
  | dummy
  | node (k : Nat)
  deriving DecidableEq, Repr

/-- A code tree (R44, R182): node `k`'s children are slots `2k` and `2k + 1`. -/
abbrev Tree := List Slot

/-- A lookup-table entry `(used, slot)` (R45). -/
structure TableEntry where
  used : Nat
  slot : Slot
  deriving DecidableEq, Repr

/-- A code: its tree and its lookup table (R41). -/
structure Code where
  tree : Tree
  table : List TableEntry
  deriving DecidableEq, Repr

/-- DIST (R41): absent outside a Huffman block, the value NONE, or a code. -/
inductive DistCode where
  | absent
  | noCode
  | code (c : Code)
  deriving DecidableEq, Repr

/-! ## The step in progress and the command port -/

/-- What CORE reads next. -/
inductive Phase where
  /-- No command is in progress: the next element is a host command (R63). -/
  | command
  /-- A READ is in progress, at a step boundary: MODE chooses the next element (R303). -/
  | step
  /-- A stored block's header bits are read: LEN and NLEN come next (R212). -/
  | storedHeader
  /-- A dynamic block's header bits are read: the count fields come next (R220). -/
  | dynamicHeader
  /-- The code-length sequence of a dynamic header is being read (R223). -/
  | clenSymbol
  /-- A length is assembled: the distance symbol comes next (R255). -/
  | distSymbol
  /-- A source request is never answered: CORE waits inside the step for ever (R61, R359). -/
  | waiting
  deriving DecidableEq, Repr

/-- The work of a dynamic header in progress (R42, R220 to R227). -/
structure DynWork where
  /-- hlit, the number of literal/length code lengths. -/
  hlit : Nat
  /-- hdist, the number of distance code lengths. -/
  hdist : Nat
  /-- CLT, the code-length code's tree. -/
  clt : Tree
  /-- lens, the code lengths read so far. -/
  lens : List Nat
  deriving DecidableEq, Repr

/-- No dynamic header in progress. -/
def DynWork.none : DynWork := ⟨0, 0, [], []⟩

/-- One command as the host issues it on the command port (R63, R130). -/
structure CmdWord where
  code : BitVec 2
  count : BitVec 31
  deriving DecidableEq, Repr

/-- A response (R65, R131). -/
inductive Response where
  | data (bytes : List Byte)
  | zero
  | eos
  | done
  | fault (code : Cause) (info : ErrInfo)
  deriving DecidableEq, Repr

/-- The parameters a construction chooses (R8, R46, R381); no step changes one. -/
structure Params where
  /-- IN_CAP. -/
  inCap : Nat
  /-- TABLE_BITS. -/
  tableBits : Nat
  /-- REWIND_CAPABLE. -/
  rewindCapable : Bool
  /-- CLOSE_RELEASES_SOURCE. -/
  closeReleasesSource : Bool
  deriving DecidableEq, Repr

/-! ## Why a step can stop -/

/-- The faults: each stops the model in a state that no run from reset reaches, where the spec gives no next element. All are
SAFE: the model stops where the hardware cannot be (log entry 6). The hardware's own fatal errors are no faults: they are
taken as R345 says, in a next state. -/
inductive Fault where
  /-- A symbol is to be decoded and its code is absent. Raised by the symbol fetch. Safe. -/
  | codeAbsent
  /-- A code tree's walk leaves the tree or does not end within MAX_CODE_LEN bits (R194 rules it out). Raised by
  `decodeSym`. Safe. -/
  | malformedTree
  /-- A code tree's leaf is no symbol of its alphabet. Raised by `step` when the decoder rejects a value. Safe. -/
  | symbolOutOfAlphabet
  /-- A READ is in progress at a step boundary in a MODE that decodes nothing. Raised by `step`. Safe. -/
  | notDecoding
  deriving DecidableEq, Repr

/-- The refusals. -/
inductive Refusal where
  /-- An instruction without a meaning, by its mnemonic. Raised by `exec`; no arm does. Safe. -/
  | notModelled (mnemonic : String)
  deriving DecidableEq, Repr

/-! ## The state -/

/-- The whole state of CORE with what it is bound to. -/
structure State where
  /-- The construction's parameters (R46). -/
  params : Params
  /-- MODE (R30). -/
  mode : Mode
  /-- FINAL (R32). -/
  final : Bool
  /-- STORED_REM (R33). -/
  storedRem : Count16
  /-- DETACHED (R34). -/
  detached : Bool
  /-- ERR (R35). -/
  err : ErrRecord
  /-- ACC, ACC_N, INBUF, IN_FILL, IN_POS and the byte source (R36 to R38, R60). -/
  input : Input
  /-- WIN (R39, R72). -/
  win : Memory
  /-- WIN_POS (R39). -/
  winPos : WinAddr
  /-- STAGE, as far as it is written (R40). -/
  stage : List Byte
  /-- STAGE_LEN (R40). -/
  stageLen : Nat
  /-- STAGE_POS (R40). -/
  stagePos : Nat
  /-- LL (R41). -/
  ll : Option Code
  /-- DIST (R41). -/
  dist : DistCode
  /-- What is read next. -/
  phase : Phase
  /-- The dynamic header in progress. -/
  dyn : DynWork
  /-- The assembled length of the pair in progress (R253's `len`). -/
  len : Nat
  /-- The commands the host has yet to have accepted, the next one first (R63, R358). -/
  cmds : List CmdWord
  /-- The count of the READ in progress (R291). -/
  rdCount : Nat
  /-- The bytes its response holds so far (R291). -/
  rdResp : List Byte
  /-- The responses given, oldest first: their DATA bytes are the output stream (R65, R90). -/
  responses : List Response
  deriving DecidableEq, Repr

/-- The default parameters (R8; REWIND_CAPABLE 0 as in the spec's vectors, log entry 7). -/
def Params.default : Params := ⟨Config.inCapDefault, Config.tableBitsDefault, false, false⟩

/-- A source with no bytes. -/
def Source.empty : Source := ⟨[], 0, [], .endOfData, [], false⟩

/-- The input layer at reset (R53, R381), bound to a source that has delivered nothing to it yet (R48), wherever that source
stands. -/
def Input.reset (src : Source) : Input := ⟨0#64, 0, [], 0, 0, [], 0, src⟩

/-- Reset (R381) of a CORE constructed with the given parameters and bound to the given source, with the commands its host
is going to issue. -/
def State.construct (params : Params) (src : Source) (cmds : List CmdWord) : State where
  params := params
  mode := .idle
  final := false
  storedRem := 0#16
  detached := false
  err := ⟨.noError, .empty⟩
  input := Input.reset src
  win := []
  winPos := 0#15
  stage := []
  stageLen := 0
  stagePos := 0
  ll := none
  dist := .absent
  phase := .command
  dyn := DynWork.none
  len := 0
  cmds := cmds
  rdCount := 0
  rdResp := []
  responses := []

/-- The machine right after reset (R53, R381): default parameters, nothing bound to it yet (log entry 7). -/
def State.reset : State := State.construct Params.default Source.empty []

end Sys2Proof.Machine
end

