-- ==== Sys2Proof/Machine/Flags.lean ====
section
/-! DEFINITION. The flags (R49) and the conditions computed from the state: FINAL, room, end of stream; and the numbers of
MODE and of the cause codes. -/

namespace Sys2Proof.Machine

/-- The number of a MODE (R30). -/
def Mode.number : Mode → Nat
  | .idle => 0
  | .stored => 1
  | .huff => 2
  | .error => 3
  | .passthru => 4
  | .released => 5
  | .closed => 6

/-- The modes in which a READ decodes (R300). -/
def Mode.decodes : Mode → Bool
  | .idle | .stored | .huff => true
  | _ => false

/-- The 8-bit number of a cause code (R341). -/
def Cause.number : Cause → BitVec 8
  | .noError => 0
  | .reservedBtype => 1
  | .storedLen => 2
  | .huffOversub => 3
  | .huffIncomplete => 4
  | .reservedLitlen => 5
  | .reservedDist => 6
  | .noDistCode => 7
  | .clenNoPrev => 8
  | .clenOverflow => 9
  | .unexpectedEos => 16
  | .io => 17
  | .useClosed => 32
  | .useAttachNotDetached => 33
  | .useDetachTwice => 34
  | .useReadReleased => 35

/-- The number of a code kind in ERR.info (R342). -/
def CodeKind.number : CodeKind → Nat
  | .clen => 0
  | .litlen => 1
  | .dist => 2

/-- FINAL after a block header with the given BFINAL (R32, R211): set by 1, never cleared. -/
def finalAfter (bfinal old : Bool) : Bool := bfinal || old

/-- `room` (R291): the bytes the READ in progress still has place for. -/
def State.room (s : State) : Nat := s.rdCount - s.rdResp.length

/-- AtEOS (R292). -/
def State.atEos (s : State) : Bool := s.mode == .idle && s.final && s.stagePos == s.stageLen

end Sys2Proof.Machine
end

