-- ==== Sys2Proof/Machine/Bits.lean ====
section
/-! DEFINITION. The bit and byte input layer (40_bit_input.md): source requests, refills, ReadBits, alignment, aligned bytes
and the direct read of stored data. Every operation acts on `Input` alone, so what it leaves unchanged is everything else. -/

namespace Sys2Proof.Machine

/-- How an operation that reads input ends. -/
inductive InRes (α : Type) where
  /-- With a value. -/
  | ok (a : α) (inp : Input)
  /-- With a fatal error to be raised (R155, R158). -/
  | fatal (code : Cause) (info : ErrInfo) (inp : Input)
  /-- Waiting on a source that never answers (R61). -/
  | wait (inp : Input)
  /-- With a fault of the model. -/
  | stop (f : Fault)
  deriving Repr

/-- Go on with the value of an operation that ended with one. -/
def InRes.andThen {α β : Type} (r : InRes α) (k : α → Input → InRes β) : InRes β :=
  match r with
  | .ok a inp => k a inp
  | .fatal c i inp => .fatal c i inp
  | .wait inp => .wait inp
  | .stop f => .stop f

/-! ## The byte source -/

/-- The source's answer to a request (R60), or its silence (R61). -/
inductive SrcAnswer where
  | data (bytes : List Byte)
  | endOfData
  | ioError (payload : List Byte)
  | silent
  deriving DecidableEq, Repr

/-- The bytes of an answer. -/
def SrcAnswer.bytes : SrcAnswer → List Byte
  | .data bytes => bytes
  | .endOfData | .ioError _ | .silent => []

/-- The bytes the source has not delivered. -/
def Source.rest (src : Source) : List Byte := src.data.drop src.pos

/-- How many bytes a DATA answer to a request for `m` holds: the source's own choice of 1 to m (R60), the next of `draws`
brought into range; all it can give where no choice is listed. -/
def Source.answerSize (src : Source) (m : Nat) : Nat :=
  min (max 1 (src.draws.headD m)) (min m src.rest.length)

/-- `SrcRequest(m)` (R60). -/
def srcRequest (m : Nat) (src : Source) : SrcAnswer × Source :=
  let asked := { src with txns := src.txns ++ [.request m] }
  if src.rest.isEmpty then
    match src.ending with
    | .endOfData => (.endOfData, asked)
    | .ioError p => (.ioError p, asked)
    | .silent => (.silent, asked)
  else
    (.data (src.rest.take (src.answerSize m)),
      { asked with pos := src.pos + src.answerSize m, draws := src.draws.tail })

/-- `SrcUnread(k)` (R64): the last `k` bytes delivered are to be delivered again. -/
def srcUnread (k : Nat) (src : Source) : Source :=
  { src with pos := src.pos - k, txns := src.txns ++ [.unread k] }

/-! ## Input buffer and accumulator -/

/-- `SrcRequest(m)` as CORE issues it: B_recv counts the bytes of the answer (R48, R60). -/
def Input.request (m : Nat) (inp : Input) : SrcAnswer × Input :=
  let answer := srcRequest m inp.src
  (answer.1, { inp with recv := inp.recv + answer.1.bytes.length, src := answer.2 })

/-- Element `i` of a buffer; an element nothing has been written to is unspecified (R53, I17; log entry 1). -/
def bufGet (buf : List Byte) (i : Nat) : Byte := (buf[i]?).getD (Config.unspecifiedByte i)

/-- Elements `i .. i + n - 1` of a buffer. -/
def bufSlice (buf : List Byte) (i n : Nat) : List Byte := (List.range n).map fun j => bufGet buf (i + j)

/-- `RefillInput()` (R155). -/
def refillInput (inCap : Nat) (inp : Input) : InRes Unit :=
  match inp.request inCap with
  | (.data bs, inp') => .ok () { inp' with inbuf := bs, inFill := bs.length, inPos := 0 }
  | (.endOfData, inp') => .fatal .unexpectedEos .empty inp'
  | (.ioError p, inp') => .fatal .io (.payload p) inp'
  | (.silent, inp') => .wait inp'

/-- The end of `NextInputByte()`: the byte at the read cursor, which advances (R154). -/
def takeBuffered (inp : Input) : InRes Byte :=
  .ok (bufGet inp.inbuf inp.inPos) { inp with inPos := inp.inPos + 1 }

/-- `NextInputByte()` (R154). -/
def nextInputByte (inCap : Nat) (inp : Input) : InRes Byte :=
  if inp.inPos = inp.inFill then (refillInput inCap inp).andThen fun _ inp' => takeBuffered inp'
  else takeBuffered inp

/-- A whole byte enters the accumulator above its valid bits (R151). -/
def pushByte (b : Byte) (inp : Input) : Input :=
  { inp with acc := inp.acc ||| (b.setWidth 64 <<< inp.accN), accN := inp.accN + 8 }

/-- ReadBits' loop (R151): bytes enter ACC until it holds `n` bits, within `fuel` bytes. -/
def fillAcc (inCap n : Nat) : Nat → Input → InRes Unit
  | 0, inp => .ok () inp
  | fuel + 1, inp =>
    if inp.accN < n then
      (nextInputByte inCap inp).andThen fun b inp' => fillAcc inCap n fuel (pushByte b inp')
    else .ok () inp

/-- The `n` low bits leave the accumulator (R151). -/
def takeBits (n : Nat) (inp : Input) : InRes Nat :=
  .ok (inp.acc.toNat % 2 ^ n) { inp with acc := inp.acc >>> n, accN := inp.accN - n }

/-- `ReadBits(n)` (R151, R153): no more than `n` bytes are ever needed for `n` bits. -/
def readBits (inCap n : Nat) (inp : Input) : InRes Nat :=
  (fillAcc inCap n n inp).andThen fun _ inp' => takeBits n inp'

/-- `AlignToByte()` (R156). -/
def alignToByte (inp : Input) : Input :=
  { inp with acc := inp.acc >>> (inp.accN % 8), accN := inp.accN - inp.accN % 8 }

/-- `ReadAlignedByte()` (R157). -/
def readAlignedByte (inCap : Nat) (inp : Input) : InRes Byte :=
  if 8 ≤ inp.accN then
    .ok (inp.acc.setWidth 8) { inp with acc := inp.acc >>> 8, accN := inp.accN - 8 }
  else nextInputByte inCap inp

/-- The direct source read for stored data (R158): a request for `m` bytes whose answer never enters INBUF. Its first byte is
the result, the others wait in `direct` for the stored-byte steps they are for. -/
def directRead (m : Nat) (inp : Input) : InRes Byte :=
  match inp.request m with
  | (.data (b :: bs), inp') => .ok b { inp' with direct := bs }
  | (.data [], inp') => .wait inp'
  | (.endOfData, inp') => .fatal .unexpectedEos .empty inp'
  | (.ioError p, inp') => .fatal .io (.payload p) inp'
  | (.silent, inp') => .wait inp'

/-- The byte a stored-byte step needs (R217): one of a direct answer's, else the next whole byte CORE holds, else, where ACC
and INBUF are both exhausted, a direct read of at most `m` bytes (R158). -/
def readStoredByte (inCap m : Nat) (inp : Input) : InRes Byte :=
  match inp.direct with
  | b :: bs => .ok b { inp with direct := bs }
  | [] =>
    if inp.accN = 0 ∧ inp.inPos = inp.inFill then directRead m inp
    else readAlignedByte inCap inp

/-- The block header as one value `h`: BFINAL, then BTYPE above it (R101, R211). -/
def readBlockHeader (inCap : Nat) (inp : Input) : InRes Nat :=
  (readBits inCap 1 inp).andThen fun bfinal inp' =>
    (readBits inCap 2 inp').andThen fun btype inp'' => .ok (bfinal + 2 * btype) inp''

/-- `LEN` and `NLEN` as one value `LEN | (NLEN << 16)` (R103, R124). -/
def readStoredHeader (inCap : Nat) (inp : Input) : InRes Nat :=
  (readBits inCap 16 inp).andThen fun len inp' =>
    (readBits inCap 16 inp').andThen fun nlen inp'' => .ok (len + 65536 * nlen) inp''

/-- The count fields as one value `HLIT | (HDIST << 5) | (HCLEN << 10)` (R124, R220). -/
def readDynamicHeader (inCap : Nat) (inp : Input) : InRes Nat :=
  (readBits inCap 5 inp).andThen fun hlit inp1 =>
    (readBits inCap 5 inp1).andThen fun hdist inp2 =>
      (readBits inCap 4 inp2).andThen fun hclen inp3 => .ok (hlit + 32 * hdist + 1024 * hclen) inp3

/-! ## Read-ahead and the stream position -/

/-- U, the source bytes CORE has received and not consumed, at a byte boundary (R161). -/
def Input.unconsumed (inp : Input) : Nat := inp.accN / 8 + (inp.inFill - inp.inPos)

/-- P, the stream position of the next unconsumed bit (R48), counted from the first byte delivered since reset or since the
rewind. The bytes of a direct answer still to be taken are delivered and
not consumed. -/
def Input.streamPos (inp : Input) : Int :=
  8 * ((inp.recv : Int) - ((inp.inFill : Int) - inp.inPos) - inp.direct.length) - inp.accN

/-- The source position of the input stream's byte 0 (R12): where the source stood at reset, or after the rewind (R48). -/
def Input.origin (inp : Input) : Nat := inp.src.pos - inp.recv

/-- Stream bit `p` (R12): bit `p mod 8` of input byte `floor(p / 8)`. -/
def Input.streamBit (inp : Input) (p : Nat) : Bool :=
  ((inp.src.data[inp.origin + p / 8]?).getD 0#8).getLsbD (p % 8)

/-- The whole bytes of ACC, lowest first, `n` of them, leave it (R322). -/
def drainAcc : Nat → Input → List Byte × Input
  | 0, inp => ([], inp)
  | n + 1, inp =>
    let r := drainAcc n { inp with acc := inp.acc >>> 8, accN := inp.accN - 8 }
    (inp.acc.setWidth 8 :: r.1, r.2)

/-- At most `count` of the unconsumed received bytes, those of ACC first (R322). -/
def drainBuffered (count : Nat) (inp : Input) : List Byte × Input :=
  let fromAcc := drainAcc (min count (inp.accN / 8)) inp
  let n := min (count - fromAcc.1.length) (fromAcc.2.inFill - fromAcc.2.inPos)
  (fromAcc.1 ++ bufSlice fromAcc.2.inbuf fromAcc.2.inPos n, { fromAcc.2 with inPos := fromAcc.2.inPos + n })

end Sys2Proof.Machine
end

