-- ==== Sys2Proof/Machine/Huffman.lean ====
section
/-! DEFINITION. The canonical code builder (41_huffman_build.md): BuildTree, BuildTable, DecodeSym, table-assisted decoding
and the fixed codes. -/

namespace Sys2Proof.Machine

/-! ## BuildTree -/

/-- How many symbols the alphabet of a kind has (R180). -/
def CodeKind.alphabet : CodeKind → Nat
  | .clen => 19
  | .litlen => 288
  | .dist => 32

/-- The symbols of code length `l`, ascending, each with its length. -/
def symbolsOfLength (lens : List Nat) (l : Nat) : List (Nat × Slot) :=
  (lens.zipIdx.filter fun p => p.1 == l).map fun p => (l, .leaf p.2)

/-- `S` of R183: the coded symbols sorted by length, then by symbol. -/
def codedSymbols (lens : List Nat) : List (Nat × Slot) :=
  (List.range' 1 Config.maxCodeLen).flatMap (symbolsOfLength lens)

/-- The DUMMY of R186 joins a distance code of exactly one symbol. -/
def withDummy (kind : CodeKind) (syms : List (Nat × Slot)) : List (Nat × Slot) :=
  match kind, syms with
  | .dist, [(l, slot)] => [(l, slot), (l, .dummy)]
  | _, _ => syms

/-- R183 from length `l` on, level by level, within `fuel` lengths. The open slots of depth `l` are the last `opens` slots of
the array, in order: the symbols of length `l` take them from the left, the others become the nodes `next`, `next + 1`, ...,
whose child slots are the open slots of the next depth. The result is the array from the first of these slots on. -/
def growTree : Nat → Nat → List (Nat × Slot) → Nat → Nat → Except Cause Tree
  | 0, _, _, _, _ => .error .huffIncomplete
  | fuel + 1, l, todo, opens, next =>
    let here := todo.takeWhile fun p => p.1 == l
    let rest := todo.dropWhile fun p => p.1 == l
    if opens < here.length then .error .huffOversub
    else
      let level := here.map Prod.snd ++ (List.range' next (opens - here.length)).map Slot.node
      if rest.isEmpty then
        if opens = here.length then .ok level else .error .huffIncomplete
      else
        (growTree fuel (l + 1) rest (2 * (opens - here.length)) (next + (opens - here.length))).map
          fun deeper => level ++ deeper

/-- The tree of the coded symbols (R183): the root's two slots are open, and node 1 is the next. -/
def treeOfSymbols (syms : List (Nat × Slot)) : Except Cause Tree := growTree Config.maxCodeLen 1 syms 2 1

/-- `BuildTree(len, kind)` (R183): a tree, NONE (R187), or the cause of a build error (R185). -/
def buildTree (lens : List Nat) (kind : CodeKind) : Except Cause (Option Tree) :=
  let syms := codedSymbols lens
  if kind = .dist ∧ syms = [] then .ok none
  else (treeOfSymbols (withDummy kind syms)).map some

/-! ## DecodeSym -/

/-- A child of node `k`: slot `2k + bit` (R182). -/
def Tree.child (t : Tree) (k : Nat) (bit : Bool) : Option Slot := t[2 * k + bit.toNat]?

/-- The walk of `DecodeSym` from node `k` (R190), within `fuel` bits. -/
def walkTree (inCap : Nat) (t : Tree) : Nat → Nat → Input → InRes Nat
  | 0, _, _ => .stop .malformedTree
  | fuel + 1, k, inp =>
    (readBits inCap 1 inp).andThen fun b inp' =>
      match t.child k (b == 1) with
      | some (.leaf s) => .ok s inp'
      | some .dummy => .ok dummySym inp'
      | some (.node k') => walkTree inCap t fuel k' inp'
      | _ => .stop .malformedTree

/-- `DecodeSym(T)` (R190): a code word has at most MAX_CODE_LEN bits. -/
def decodeSym (inCap : Nat) (t : Tree) (inp : Input) : InRes Nat :=
  walkTree inCap t Config.maxCodeLen 0 inp

/-! ## The lookup table -/

/-- BuildTable's walk for pattern `x` from node `k`, `u` bits used of `bits` (R189), within `fuel` bits. -/
def tableWalk (t : Tree) (bits x : Nat) : Nat → Nat → Nat → TableEntry
  | 0, u, k => ⟨u, .node k⟩
  | fuel + 1, u, k =>
    match t.child k (x.testBit u) with
    | some (.node k') => if u + 1 = bits then ⟨u + 1, .node k'⟩ else tableWalk t bits x fuel (u + 1) k'
    | some slot => ⟨u + 1, slot⟩
    | none => ⟨u + 1, .opn⟩

/-- `BuildTable(tree)` (R189). -/
def buildTable (bits : Nat) (t : Tree) : List TableEntry :=
  (List.range (2 ^ bits)).map fun x => tableWalk t bits x bits 0 0

/-- A code from its tree (R228). -/
def mkCode (tableBits : Nat) (t : Tree) : Code := ⟨t, buildTable tableBits t⟩

/-- What a table entry leads to (R191): its bits are consumed, and from a node the walk goes on. -/
def useEntry (inCap : Nat) (t : Tree) (e : TableEntry) (inp : Input) : InRes Nat :=
  (takeBits e.used inp).andThen fun _ inp' =>
    match e.slot with
    | .leaf s => .ok s inp'
    | .dummy => .ok dummySym inp'
    | .node k => walkTree inCap t (Config.maxCodeLen - e.used) k inp'
    | .opn => .stop .malformedTree

/-- Table-assisted decoding (R191), to be used only where TABLE_BITS bits are available without a source request: ACC is
filled from INBUF, and the entry of its next TABLE_BITS bits is used. -/
def decodeSymByTable (inCap tableBits : Nat) (c : Code) (inp : Input) : InRes Nat :=
  (fillAcc inCap tableBits tableBits inp).andThen fun _ inp' =>
    match c.table[inp'.acc.toNat % 2 ^ tableBits]? with
    | none => .stop .malformedTree
    | some e => useEntry inCap c.tree e inp'

/-! ## What a tree must be -/

/-- Every walk from node `k` ends at a leaf within `fuel` bits (R184), and every leaf satisfies `ok`. -/
def Tree.fullFrom (t : Tree) (ok : Slot → Bool) : Nat → Nat → Bool
  | 0, _ => false
  | fuel + 1, k =>
    [false, true].all fun b =>
      match t.child k b with
      | some (.node k') => Tree.fullFrom t ok fuel k'
      | some .opn | none => false
      | some slot => ok slot

/-- The leaves a code of a kind may have: symbols of its alphabet, and DUMMY in a distance code (R180, R186). -/
def CodeKind.leafOk (kind : CodeKind) : Slot → Bool
  | .leaf s => decide (s < kind.alphabet)
  | .dummy => kind == .dist
  | _ => false

/-- A tree of a kind as BuildTree makes it (R184): full within MAX_CODE_LEN bits, over the kind's alphabet. -/
def Tree.full (t : Tree) (kind : CodeKind) : Bool := t.fullFrom kind.leafOk Config.maxCodeLen 0

/-! ## The fixed codes -/

/-- The nodes numbered `k` to `k + n - 1`, in order. -/
def nodeRun (k n : Nat) : Tree := (List.range' k n).map .node

/-- The leaves of the symbols `s` to `s + n - 1`, in order. -/
def leafRun (s n : Nat) : Tree := (List.range' s n).map .leaf

/-- The tree of FIXED_LL, precomputed (R43): what BuildTree makes of the lengths of R118 (R188), depth by depth. Depths 1 to 6
hold nodes only, depth 7 the symbols 256..279, depth 8 the symbols 0..143 and 280..287, depth 9 the symbols 144..255. -/
def fixedLitlenTree : Tree :=
  nodeRun 1 126 ++ (leafRun 256 24 ++ (nodeRun 127 104 ++ (leafRun 0 144 ++ (leafRun 280 8 ++
    (nodeRun 231 56 ++ leafRun 144 112)))))

/-- The tree of FIXED_DIST, precomputed (R43, R188): depths 1 to 4 hold nodes only, depth 5 the 32 symbols. -/
def fixedDistTree : Tree := nodeRun 1 30 ++ leafRun 0 32

/-- FIXED_LL (R43, R188). -/
def fixedLL (tableBits : Nat) : Code := mkCode tableBits fixedLitlenTree

/-- FIXED_DIST (R43, R188). -/
def fixedDist (tableBits : Nat) : Code := mkCode tableBits fixedDistTree

end Sys2Proof.Machine
end

