-- ==== Sys2Proof/Machine/Operands.lean ====
section
/-! DEFINITION. Operand assembly (R110): the length, distance and repeat tables, `base + ReadBits(extra)`, the code-length
order and the split of the code-length sequence. -/

namespace Sys2Proof.Machine

/-- How an operand is assembled: a base value and a number of extra bits (R110). -/
structure Operand where
  base : Nat
  extra : Nat
  deriving DecidableEq, Repr

/-- LEN_BASE and LEN_EXTRA (R112), symbols 257..285 in order. -/
def lengthTable : List Operand :=
  [⟨3, 0⟩, ⟨4, 0⟩, ⟨5, 0⟩, ⟨6, 0⟩, ⟨7, 0⟩, ⟨8, 0⟩, ⟨9, 0⟩, ⟨10, 0⟩,
   ⟨11, 1⟩, ⟨13, 1⟩, ⟨15, 1⟩, ⟨17, 1⟩, ⟨19, 2⟩, ⟨23, 2⟩, ⟨27, 2⟩, ⟨31, 2⟩,
   ⟨35, 3⟩, ⟨43, 3⟩, ⟨51, 3⟩, ⟨59, 3⟩, ⟨67, 4⟩, ⟨83, 4⟩, ⟨99, 4⟩, ⟨115, 4⟩,
   ⟨131, 5⟩, ⟨163, 5⟩, ⟨195, 5⟩, ⟨227, 5⟩, ⟨258, 0⟩]

/-- DIST_BASE and DIST_EXTRA (R113), symbols 0..29 in order. -/
def distanceTable : List Operand :=
  [⟨1, 0⟩, ⟨2, 0⟩, ⟨3, 0⟩, ⟨4, 0⟩, ⟨5, 1⟩, ⟨7, 1⟩, ⟨9, 2⟩, ⟨13, 2⟩, ⟨17, 3⟩, ⟨25, 3⟩,
   ⟨33, 4⟩, ⟨49, 4⟩, ⟨65, 5⟩, ⟨97, 5⟩, ⟨129, 6⟩, ⟨193, 6⟩, ⟨257, 7⟩, ⟨385, 7⟩,
   ⟨513, 8⟩, ⟨769, 8⟩, ⟨1025, 9⟩, ⟨1537, 9⟩, ⟨2049, 10⟩, ⟨3073, 10⟩,
   ⟨4097, 11⟩, ⟨6145, 11⟩, ⟨8193, 12⟩, ⟨12289, 12⟩, ⟨16385, 13⟩, ⟨24577, 13⟩]

/-- The operand of length symbol `s`, 257 to 285 (R112). -/
def lengthOperand (s : Nat) : Operand := lengthTable.getD (s - 257) ⟨0, 0⟩

/-- The operand of distance symbol `d`, 0 to 29 (R113). -/
def distanceOperand (d : Nat) : Operand := distanceTable.getD d ⟨0, 0⟩

/-- The repeat count of CL symbol 16 (R107, R224). -/
def repeatPrevOperand : Operand := ⟨3, 2⟩

/-- The repeat count of CL symbol 17 (R107, R225). -/
def zeroShortOperand : Operand := ⟨3, 3⟩

/-- The repeat count of CL symbol 18 (R107, R226). -/
def zeroLongOperand : Operand := ⟨11, 7⟩

/-- `base + ReadBits(extra)` (R110). -/
def readOperand (inCap : Nat) (o : Operand) (inp : Input) : InRes Nat :=
  (readBits inCap o.extra inp).andThen fun v inp' => .ok (o.base + v) inp'

/-- CL_ORDER (R116). -/
def clOrder : List Nat := [16, 17, 18, 0, 8, 7, 9, 6, 10, 5, 11, 4, 12, 3, 13, 2, 14, 1, 15]

/-- The code-length-code lengths (R221): 3 bits for each symbol of `order`, put in `cl` as they are read. -/
def readClLengths (inCap : Nat) : List Nat → List Nat → Input → InRes (List Nat)
  | [], cl, inp => .ok cl inp
  | s :: order, cl, inp =>
    (readBits inCap 3 inp).andThen fun v inp' => readClLengths inCap order (cl.set s v) inp'

/-- The literal/length code lengths of a code-length sequence (R227). -/
def splitLitlen (hlit : Nat) (lens : List Nat) : List Nat :=
  lens.take hlit ++ List.replicate (CodeKind.litlen.alphabet - hlit) 0

/-- The distance code lengths of a code-length sequence (R227). -/
def splitDist (hlit hdist : Nat) (lens : List Nat) : List Nat :=
  (lens.drop hlit).take hdist ++ List.replicate (CodeKind.dist.alphabet - hdist) 0

end Sys2Proof.Machine
end

