-- ==== Sys2Proof/Machine/Ops.lean ====
section
/-! DEFINITION. The named operations over the window, the staging buffer, the command port and the error record. The fatal
error (R345) is the one shared operation that takes an exception; CORE has no return from it (R362). -/

namespace Sys2Proof.Machine

/-! ## The window's memory -/

/-- Read the byte at an address: an unlisted address reads as `Config.tooFar` (R53, R72, R272). -/
def Memory.read : Memory → Nat → Byte
  | [], _ => Config.tooFar
  | (x, b) :: rest, a => if x = a then b else if a < x then Config.tooFar else Memory.read rest a

/-- Write a byte at an address, keeping the canonical form (R72). -/
def Memory.write : Memory → Nat → Byte → Memory
  | [], a, v => if v = Config.tooFar then [] else [(a, v)]
  | (x, b) :: rest, a, v =>
    if a < x then (if v = Config.tooFar then (x, b) :: rest else (a, v) :: (x, b) :: rest)
    else if a = x then (if v = Config.tooFar then rest else (a, v) :: rest)
    else (x, b) :: Memory.write rest a v

/-- The canonical form from address `lo` up: addresses strictly rising and below the window's size, no entry equal to what an
unlisted address reads as. -/
def Memory.wfFrom : Nat → Memory → Bool
  | _, [] => true
  | lo, (x, b) :: rest =>
    decide (lo ≤ x) && decide (x < Config.winSize) && decide (b ≠ Config.tooFar) && Memory.wfFrom (x + 1) rest

/-- The canonical form of a window. -/
def Memory.wf (m : Memory) : Bool := Memory.wfFrom 0 m

/-! ## Emitting bytes -/

/-- `WinPut(b)` (R73). -/
def winPut (b : Byte) (s : State) : State :=
  { s with win := s.win.write s.winPos.toNat b, winPos := s.winPos + 1#15 }

/-- A byte goes to the response while it has room, else to STAGE (R80, R270). -/
def deliver (b : Byte) (s : State) : State :=
  if 0 < s.room then { s with rdResp := s.rdResp ++ [b] }
  else { s with stage := s.stage.take s.stageLen ++ [b], stageLen := s.stageLen + 1 }

/-- `Emit(b)` (R270). -/
def emit (b : Byte) (s : State) : State := deliver b (winPut b s)

/-- The window address a back-reference of distance `dist` reads next (R74, R275). -/
def copySource (dist : Nat) (s : State) : WinAddr := s.winPos - BitVec.ofNat 15 dist

/-- `Copy(dist, len)` (R271): each byte is read before it is emitted. -/
def copy (dist : Nat) : Nat → State → State
  | 0, s => s
  | len + 1, s => copy dist len (emit (s.win.read (copySource dist s).toNat) s)

/-! ## Answering and faulting -/

/-- A response ends the command in progress (R63). -/
def respond (r : Response) (s : State) : State :=
  { s with responses := s.responses ++ [r], phase := .command, rdCount := 0, rdResp := [] }

/-- The release of WIN, INBUF, STAGE, LL and DIST (R86, R320, R345: "all buffers set to empty/null"); log entry 8. What is in
progress in the step is abandoned with them. STAGE_LEN and STAGE_POS, of which R345 says nothing, keep their values (DESIGN
CHOICE, log entry 23). -/
def releaseBuffers (s : State) : State :=
  { s with win := [], input := { s.input with inbuf := [], direct := [] }, stage := [], ll := none, dist := .absent,
           dyn := DynWork.none, len := 0 }

/-- `raise Fatal(code, info)` (R345): the exception, taken. -/
def fatal (code : Cause) (info : ErrInfo) (s : State) : State :=
  respond (.fault code info) (releaseBuffers { s with err := ⟨code, info⟩, mode := .error })

/-- CORE's outcomes. -/
abbrev Result := Host.Outcome State Fault Refusal

/-- Go on with what an input operation read; its fatal errors are raised, its waiting holds the command in progress for
ever. -/
def onInput {α : Type} (s : State) (r : InRes α) (k : α → State → Result) : Result :=
  match r with
  | .ok a inp => k a { s with input := inp }
  | .fatal c i inp => .next (fatal c i { s with input := inp })
  | .wait inp => .next { s with input := inp, phase := .waiting }
  | .stop f => .fault f

/-! ## READ's own operations -/

/-- `Drain()` (R302): staged bytes move to the response while it has room. -/
def drain (s : State) : State :=
  let n := min s.room (s.stageLen - s.stagePos)
  let moved := { s with rdResp := s.rdResp ++ bufSlice s.stage s.stagePos n, stagePos := s.stagePos + n }
  if moved.stagePos = moved.stageLen then { moved with stagePos := 0, stageLen := 0 } else moved

/-- READ's answer when its loop ends (R300). -/
def answerRead (s : State) : State := respond (if s.rdResp = [] then .eos else .data s.rdResp) s

/-- READ's loop test (R300), at a step boundary: the READ is answered when its response is full or the stream has ended, else
another step follows. Inside a step nothing happens. -/
def settle (s : State) : State :=
  if s.phase = .step then (if s.room = 0 ∨ s.atEos = true then answerRead s else s) else s

/-- `PassRead(count)` (R322). -/
def passRead (count : Nat) (s : State) : Result :=
  if count = 0 then .next (respond .zero s)
  else
    let r := drainBuffered count s.input
    if r.1 ≠ [] then .next (respond (.data r.1) { s with input := r.2 })
    else
      match s.input.request count with
      | (.data bs, inp) => .next (respond (.data bs) { s with input := inp })
      | (.endOfData, inp) => .next (respond .eos { s with input := inp })
      | (.ioError p, inp) => .next (fatal .io (.payload p) { s with input := inp })
      | (.silent, inp) => .next { s with input := inp, phase := .waiting }

/-! ## Lifecycle operations -/

/-- `DetachCommon()` (R311). -/
def detachCommon (s : State) : State :=
  { s with detached := true, input := alignToByte s.input, stagePos := 0, stageLen := 0, ll := none, dist := .absent,
           storedRem := 0#16 }

/-- `DetachPassthrough()` (R312). -/
def detachPassthrough (s : State) : State := { s with mode := .passthru }

/-- `DetachRewind()` (R313). B_recv counts from the rewind on (R48). -/
def detachRewind (s : State) : State :=
  { s with mode := .released,
           input := { s.input with src := srcUnread s.input.unconsumed s.input.src, acc := 0#64, accN := 0, inPos := 0,
                                   inFill := 0, recv := 0 } }

/-- `AttachReset()` (R316). What STAGE holds after it is unspecified (R53): the list of its written elements is emptied, so that
they hold free values (DESIGN CHOICE, log entry 1). -/
def attachReset (s : State) : State :=
  { s with win := [], winPos := 0#15, final := false, detached := false, storedRem := 0#16, stage := [], stagePos := 0,
           stageLen := 0, ll := none, dist := .absent, mode := .idle }

/-- CLOSE's effect on an open CORE (R320); the source is closed too only under CLOSE_RELEASES_SOURCE. -/
def closeCore (s : State) : State :=
  let r := releaseBuffers s
  { r with mode := .closed,
           input := { r.input with src := { r.input.src with closed := r.input.src.closed || r.params.closeReleasesSource } } }

end Sys2Proof.Machine
end

