-- ==== Sys2Proof/Machine/Blocks.lean ====
section
/-! DEFINITION. The meanings of the block headers and of the stored block's elements (42_block_dispatch.md §§1 to 4). The
header's three bits are read when a meaning runs. -/

namespace Sys2Proof.Machine

/-- BLOCK_STORED (R211, R212): the pad bits are discarded and LEN and NLEN come next. -/
def execBlockStored (bfinal : Bool) (s : State) : Result :=
  .next { s with final := finalAfter bfinal s.final, input := alignToByte s.input, phase := .storedHeader }

/-- BLOCK_FIXED (R211, R214). -/
def execBlockFixed (bfinal : Bool) (s : State) : Result :=
  .next { s with final := finalAfter bfinal s.final, ll := some (fixedLL s.params.tableBits),
                 dist := .code (fixedDist s.params.tableBits), mode := .huff }

/-- BLOCK_DYNAMIC (R211, R215): the count fields come next. -/
def execBlockDynamic (bfinal : Bool) (s : State) : Result :=
  .next { s with final := finalAfter bfinal s.final, phase := .dynamicHeader }

/-- BLOCK_RESERVED (R211, R216): FINAL is set before the type is refused. -/
def execBlockReserved (bfinal : Bool) (s : State) : Result :=
  .next (fatal .reservedBtype .empty { s with final := finalAfter bfinal s.final })

/-- STORED_HEADER (R212, R213). -/
def execStoredHeader (len nlen : Count16) (s : State) : Result :=
  if nlen = len ^^^ 0xFFFF#16 then
    .next { s with storedRem := len, mode := if len = 0#16 then .idle else .stored, phase := .step }
  else .next (fatal .storedLen (.lengths len nlen) s)

/-- STORED_BYTE (R217, R218). -/
def execStoredByte (b : Byte) (s : State) : Result :=
  let t := emit b s
  .next { t with storedRem := s.storedRem - 1#16, mode := if s.storedRem = 1#16 then .idle else s.mode }

end Sys2Proof.Machine
end

