-- ==== Sys2Proof/Machine/Commands.lean ====
section
/-! DEFINITION. The meanings of the host commands (44_commands.md), in the check order the spec gives each. -/

namespace Sys2Proof.Machine

/-- CMD_READ (R300), as far as its loop test: an accepted READ that decodes is at a step boundary then, with the staged bytes
drained (R302); `settle` is the loop test. READ 0 is answered from the state (R301). -/
def execCmdRead (count : Nat) (s : State) : Result :=
  match s.mode with
  | .closed => .next (respond (.fault .useClosed .empty) s)
  | .error => .next (respond (.fault s.err.code s.err.info) s)
  | .released => .next (fatal .useReadReleased .empty s)
  | .passthru => passRead count s
  | .idle | .stored | .huff =>
    if count = 0 then .next (respond (if s.atEos then .eos else .zero) s)
    else .next (drain { s with phase := .step, rdCount := count, rdResp := [] })

/-- CMD_DETACH (R310). -/
def execCmdDetach (s : State) : Result :=
  match s.mode with
  | .closed => .next (respond (.fault .useClosed .empty) s)
  | .error => .next (respond (.fault s.err.code s.err.info) s)
  | .idle | .stored | .huff | .passthru | .released =>
    if s.detached then .next (fatal .useDetachTwice .empty s)
    else
      let t := detachCommon s
      .next (respond .done (if t.params.rewindCapable then detachRewind t else detachPassthrough t))

/-- CMD_ATTACH (R315). -/
def execCmdAttach (s : State) : Result :=
  match s.mode with
  | .closed => .next (respond (.fault .useClosed .empty) s)
  | .error => .next (respond (.fault s.err.code s.err.info) s)
  | .passthru => .next (respond .done (attachReset s))
  | .idle | .stored | .huff | .released => .next (fatal .useAttachNotDetached .empty s)

/-- CMD_CLOSE (R320, R321). -/
def execCmdClose (s : State) : Result :=
  match s.mode with
  | .closed => .next (respond .done s)
  | .idle | .stored | .huff | .error | .passthru | .released => .next (respond .done (closeCore s))

end Sys2Proof.Machine
end

