-- ==== Sys2Proof/Machine/Distances.lean ====
section
/-! DEFINITION. The meanings of the distance symbols 0..29 (R253, second half; R255, R257): each is one line over the shared
operation. -/

namespace Sys2Proof.Machine

/-- A distance symbol (R253, R257): its extra bits are read and the pair is copied, which ends the step. -/
def distanceCode (o : Operand) (s : State) : Result :=
  onInput s (readOperand s.params.inCap o s.input) fun dist t =>
    .next { copy dist t.len t with len := 0, phase := .step }

/-- DIST_0 (R113, R255). -/
def execDist0 (s : State) : Result := distanceCode (distanceOperand 0) s

/-- DIST_1 (R113, R255). -/
def execDist1 (s : State) : Result := distanceCode (distanceOperand 1) s

/-- DIST_2 (R113, R255). -/
def execDist2 (s : State) : Result := distanceCode (distanceOperand 2) s

/-- DIST_3 (R113, R255). -/
def execDist3 (s : State) : Result := distanceCode (distanceOperand 3) s

/-- DIST_4 (R113, R255). -/
def execDist4 (s : State) : Result := distanceCode (distanceOperand 4) s

/-- DIST_5 (R113, R255). -/
def execDist5 (s : State) : Result := distanceCode (distanceOperand 5) s

/-- DIST_6 (R113, R255). -/
def execDist6 (s : State) : Result := distanceCode (distanceOperand 6) s

/-- DIST_7 (R113, R255). -/
def execDist7 (s : State) : Result := distanceCode (distanceOperand 7) s

/-- DIST_8 (R113, R255). -/
def execDist8 (s : State) : Result := distanceCode (distanceOperand 8) s

/-- DIST_9 (R113, R255). -/
def execDist9 (s : State) : Result := distanceCode (distanceOperand 9) s

/-- DIST_10 (R113, R255). -/
def execDist10 (s : State) : Result := distanceCode (distanceOperand 10) s

/-- DIST_11 (R113, R255). -/
def execDist11 (s : State) : Result := distanceCode (distanceOperand 11) s

/-- DIST_12 (R113, R255). -/
def execDist12 (s : State) : Result := distanceCode (distanceOperand 12) s

/-- DIST_13 (R113, R255). -/
def execDist13 (s : State) : Result := distanceCode (distanceOperand 13) s

/-- DIST_14 (R113, R255). -/
def execDist14 (s : State) : Result := distanceCode (distanceOperand 14) s

/-- DIST_15 (R113, R255). -/
def execDist15 (s : State) : Result := distanceCode (distanceOperand 15) s

/-- DIST_16 (R113, R255). -/
def execDist16 (s : State) : Result := distanceCode (distanceOperand 16) s

/-- DIST_17 (R113, R255). -/
def execDist17 (s : State) : Result := distanceCode (distanceOperand 17) s

/-- DIST_18 (R113, R255). -/
def execDist18 (s : State) : Result := distanceCode (distanceOperand 18) s

/-- DIST_19 (R113, R255). -/
def execDist19 (s : State) : Result := distanceCode (distanceOperand 19) s

/-- DIST_20 (R113, R255). -/
def execDist20 (s : State) : Result := distanceCode (distanceOperand 20) s

/-- DIST_21 (R113, R255). -/
def execDist21 (s : State) : Result := distanceCode (distanceOperand 21) s

/-- DIST_22 (R113, R255). -/
def execDist22 (s : State) : Result := distanceCode (distanceOperand 22) s

/-- DIST_23 (R113, R255). -/
def execDist23 (s : State) : Result := distanceCode (distanceOperand 23) s

/-- DIST_24 (R113, R255). -/
def execDist24 (s : State) : Result := distanceCode (distanceOperand 24) s

/-- DIST_25 (R113, R255). -/
def execDist25 (s : State) : Result := distanceCode (distanceOperand 25) s

/-- DIST_26 (R113, R255). -/
def execDist26 (s : State) : Result := distanceCode (distanceOperand 26) s

/-- DIST_27 (R113, R255). -/
def execDist27 (s : State) : Result := distanceCode (distanceOperand 27) s

/-- DIST_28 (R113, R255). -/
def execDist28 (s : State) : Result := distanceCode (distanceOperand 28) s

/-- DIST_29 (R113, R255). -/
def execDist29 (s : State) : Result := distanceCode (distanceOperand 29) s

end Sys2Proof.Machine
end

