-- ==== Sys2Proof/Machine/Dynamic.lean ====
section
/-! DEFINITION. The meanings of the dynamic block header's elements (42_block_dispatch.md §5). -/

namespace Sys2Proof.Machine

/-- DYNAMIC_HEADER (R220 to R222): the code-length-code lengths are read and CLT is built; the sequence comes next. -/
def execDynamicHeader (hlit hdist : BitVec 5) (hclen : BitVec 4) (s : State) : Result :=
  onInput s (readClLengths s.params.inCap (clOrder.take (hclen.toNat + 4)) (List.replicate CodeKind.clen.alphabet 0) s.input)
    fun cl t =>
      match buildTree cl .clen with
      | .ok tree =>
        .next { t with dyn := ⟨hlit.toNat + 257, hdist.toNat + 1, tree.getD [], []⟩, phase := .clenSymbol }
      | .error c => .next (fatal c (.kind .clen) t)

/-- The codes of a complete code-length sequence (R227, R228): both are built before either is adopted, the literal/length code
first. -/
def adoptCodes (lens : List Nat) (s : State) : State :=
  match buildTree (splitLitlen s.dyn.hlit lens) .litlen with
  | .error c => fatal c (.kind .litlen) s
  | .ok tll =>
    match buildTree (splitDist s.dyn.hlit s.dyn.hdist lens) .dist with
    | .error c => fatal c (.kind .dist) s
    | .ok td =>
      { s with ll := some (mkCode s.params.tableBits (tll.getD [])),
               dist := match td with
                 | none => .noCode
                 | some t => .code (mkCode s.params.tableBits t),
               mode := .huff, phase := .step, dyn := DynWork.none }

/-- The sequence after more lengths (R223): it goes on until it holds hlit + hdist lengths. -/
def extendLengths (more : List Nat) (s : State) : State :=
  let lens := s.dyn.lens ++ more
  if lens.length < s.dyn.hlit + s.dyn.hdist then { s with dyn := { s.dyn with lens := lens } } else adoptCodes lens s

/-- A repeat of `r` lengths (R227's CheckRoom, then the lengths appended). -/
def repeatLength (r value : Nat) (s : State) : State :=
  if s.dyn.hlit + s.dyn.hdist < s.dyn.lens.length + r then fatal .clenOverflow .empty s
  else extendLengths (List.replicate r value) s

/-- CL_LEN (R223). -/
def execClLen (len : BitVec 4) (s : State) : Result := .next (extendLengths [len.toNat] s)

/-- CL_REPEAT_PREV (R224). -/
def execClRepeatPrev (s : State) : Result :=
  match s.dyn.lens.getLast? with
  | none => .next (fatal .clenNoPrev .empty s)
  | some prev => onInput s (readOperand s.params.inCap repeatPrevOperand s.input) fun r t => .next (repeatLength r prev t)

/-- CL_ZERO_SHORT (R225). -/
def execClZeroShort (s : State) : Result :=
  onInput s (readOperand s.params.inCap zeroShortOperand s.input) fun r t => .next (repeatLength r 0 t)

/-- CL_ZERO_LONG (R226). -/
def execClZeroLong (s : State) : Result :=
  onInput s (readOperand s.params.inCap zeroLongOperand s.input) fun r t => .next (repeatLength r 0 t)

end Sys2Proof.Machine
end

