-- ==== Sys2Proof/Machine/Lengths.lean ====
section
/-! DEFINITION. The meanings of the length symbols 257..285 (R253, first half): each is one line over the shared operation. -/

namespace Sys2Proof.Machine

/-- A length symbol (R253): its extra bits are read; then, at the point where the distance symbol would be decoded, a block
without a distance code faults (R259); else the distance symbol comes next. -/
def lengthCode (o : Operand) (s : State) : Result :=
  onInput s (readOperand s.params.inCap o s.input) fun len t =>
    if t.dist = .noCode then .next (fatal .noDistCode .empty t) else .next { t with len := len, phase := .distSymbol }

/-- LEN_257 (R112, R253). -/
def execLen257 (s : State) : Result := lengthCode (lengthOperand 257) s

/-- LEN_258 (R112, R253). -/
def execLen258 (s : State) : Result := lengthCode (lengthOperand 258) s

/-- LEN_259 (R112, R253). -/
def execLen259 (s : State) : Result := lengthCode (lengthOperand 259) s

/-- LEN_260 (R112, R253). -/
def execLen260 (s : State) : Result := lengthCode (lengthOperand 260) s

/-- LEN_261 (R112, R253). -/
def execLen261 (s : State) : Result := lengthCode (lengthOperand 261) s

/-- LEN_262 (R112, R253). -/
def execLen262 (s : State) : Result := lengthCode (lengthOperand 262) s

/-- LEN_263 (R112, R253). -/
def execLen263 (s : State) : Result := lengthCode (lengthOperand 263) s

/-- LEN_264 (R112, R253). -/
def execLen264 (s : State) : Result := lengthCode (lengthOperand 264) s

/-- LEN_265 (R112, R253). -/
def execLen265 (s : State) : Result := lengthCode (lengthOperand 265) s

/-- LEN_266 (R112, R253). -/
def execLen266 (s : State) : Result := lengthCode (lengthOperand 266) s

/-- LEN_267 (R112, R253). -/
def execLen267 (s : State) : Result := lengthCode (lengthOperand 267) s

/-- LEN_268 (R112, R253). -/
def execLen268 (s : State) : Result := lengthCode (lengthOperand 268) s

/-- LEN_269 (R112, R253). -/
def execLen269 (s : State) : Result := lengthCode (lengthOperand 269) s

/-- LEN_270 (R112, R253). -/
def execLen270 (s : State) : Result := lengthCode (lengthOperand 270) s

/-- LEN_271 (R112, R253). -/
def execLen271 (s : State) : Result := lengthCode (lengthOperand 271) s

/-- LEN_272 (R112, R253). -/
def execLen272 (s : State) : Result := lengthCode (lengthOperand 272) s

/-- LEN_273 (R112, R253). -/
def execLen273 (s : State) : Result := lengthCode (lengthOperand 273) s

/-- LEN_274 (R112, R253). -/
def execLen274 (s : State) : Result := lengthCode (lengthOperand 274) s

/-- LEN_275 (R112, R253). -/
def execLen275 (s : State) : Result := lengthCode (lengthOperand 275) s

/-- LEN_276 (R112, R253). -/
def execLen276 (s : State) : Result := lengthCode (lengthOperand 276) s

/-- LEN_277 (R112, R253). -/
def execLen277 (s : State) : Result := lengthCode (lengthOperand 277) s

/-- LEN_278 (R112, R253). -/
def execLen278 (s : State) : Result := lengthCode (lengthOperand 278) s

/-- LEN_279 (R112, R253). -/
def execLen279 (s : State) : Result := lengthCode (lengthOperand 279) s

/-- LEN_280 (R112, R253). -/
def execLen280 (s : State) : Result := lengthCode (lengthOperand 280) s

/-- LEN_281 (R112, R253). -/
def execLen281 (s : State) : Result := lengthCode (lengthOperand 281) s

/-- LEN_282 (R112, R253). -/
def execLen282 (s : State) : Result := lengthCode (lengthOperand 282) s

/-- LEN_283 (R112, R253). -/
def execLen283 (s : State) : Result := lengthCode (lengthOperand 283) s

/-- LEN_284 (R112, R253). -/
def execLen284 (s : State) : Result := lengthCode (lengthOperand 284) s

/-- LEN_285 (R112, R253). -/
def execLen285 (s : State) : Result := lengthCode (lengthOperand 285) s

end Sys2Proof.Machine
end

