-- ==== Sys2Proof/Machine/Symbols.lean ====
section
/-! DEFINITION. The meanings of the literal and end-of-block symbols and of the reserved symbols (43_symbol_decode.md §1, §2).
The symbol's code word is read when a meaning runs. -/

namespace Sys2Proof.Machine

/-- LIT (R252). -/
def execLit (b : Byte) (s : State) : Result := .next (emit b s)

/-- EOB (R251): the codes of the block are cleared. -/
def execEob (s : State) : Result := .next { s with ll := none, dist := .absent, mode := .idle }

/-- LEN_RESERVED (R256). -/
def execLenReserved (sym : Nat) (s : State) : Result := .next (fatal .reservedLitlen (.symbol sym) s)

/-- DIST_RESERVED (R258): 30 and 31 are recorded as symbols, DUMMY as itself. -/
def execDistReserved (sym : Nat) (s : State) : Result :=
  .next (fatal .reservedDist (if sym = dummySym then .dummy else .symbol sym) s)

end Sys2Proof.Machine
end

