-- ==== Sys2Proof/Machine/Fetch.lean ====
section
/-! DEFINITION. Reading the value of the next element (R124): which format the state expects, and what is read for it. And the
placing of one element where it is read next. -/

namespace Sys2Proof.Machine

/-! ## The expected element -/

/-- The format of the element read next inside a READ (R124, R303); none where nothing is read from the stream. -/
def expectedFormat (s : State) : Option Format :=
  match s.phase with
  | .command => none
  | .waiting => none
  | .step =>
    match s.mode with
    | .idle => some .blockHeader
    | .stored => some .storedByte
    | .huff => some .litlenSymbol
    | .error | .passthru | .released | .closed => none
  | .storedHeader => some .storedHeader
  | .dynamicHeader => some .dynamicHeader
  | .clenSymbol => some .clenSymbol
  | .distSymbol => some .distSymbol

/-- The value of an element of a format, read from the input stream (R124); a symbol is decoded with the format's code. A
stored byte may come from a direct read of min(STORED_REM, room) bytes (R158). -/
def fetchValue (f : Format) (s : State) : InRes Nat :=
  match f with
  | .blockHeader => readBlockHeader s.params.inCap s.input
  | .storedHeader => readStoredHeader s.params.inCap s.input
  | .storedByte =>
    (readStoredByte s.params.inCap (min s.storedRem.toNat s.room) s.input).andThen fun b inp => .ok b.toNat inp
  | .dynamicHeader => readDynamicHeader s.params.inCap s.input
  | .clenSymbol => decodeSym s.params.inCap s.dyn.clt s.input
  | .litlenSymbol =>
    match s.ll with
    | some c => decodeSym s.params.inCap c.tree s.input
    | none => .stop .codeAbsent
  | .distSymbol =>
    match s.dist with
    | .code c => decodeSym s.params.inCap c.tree s.input
    | .noCode | .absent => .stop .codeAbsent
  | .command => .stop .notDecoding

/-- The number of a command word: its code in the two low bits, its count above them (log entry 3). -/
def CmdWord.value (w : CmdWord) : Nat := w.code.toNat + 4 * w.count.toNat

/-! ## Placing an element -/

/-- The command word of a number. -/
def CmdWord.ofNat (w : Nat) : CmdWord := ⟨BitVec.ofNat 2 w, BitVec.ofNat 31 (w / 4)⟩

/-- The low `n` bits of `w` are the next stream bits; zeros follow them, 56 bits in all, and two bytes of zeros in INBUF:
enough for every field an element's meaning reads after its value. -/
def Input.withBits (inp : Input) (n w : Nat) : Input :=
  { inp with acc := BitVec.ofNat 64 (w % 2 ^ n), accN := 56, inbuf := [0#8, 0#8], inFill := 2, inPos := 0, direct := [] }

/-- A READ of one byte is in progress, in the given mode, with the given element coming next. -/
def State.inRead (s : State) (m : Mode) (p : Phase) : State :=
  { s with mode := m, phase := p, rdCount := 1, rdResp := [] }

/-- A distance code in which `w` has a one-bit code word: the single code of a symbol with its DUMMY (R186). -/
def probeDist (tableBits w : Nat) : Code :=
  mkCode tableBits [if w = dummySym then .leaf 0 else .leaf w, .dummy]

/-- A state in which the next element read is the one of format `f` and value `w`; every bit after the value is 0 (log entry
9). A symbol `w` gets a code in which its code word is one bit. -/
def State.withElement (s : State) (f : Format) (w : Nat) : State :=
  match f with
  | .command => { s with phase := .command, cmds := CmdWord.ofNat w :: s.cmds }
  | .blockHeader => { s.inRead .idle .step with final := false, input := s.input.withBits 3 w }
  | .storedHeader => { s.inRead .idle .storedHeader with input := s.input.withBits 32 w }
  | .storedByte => { s.inRead .stored .step with input := s.input.withBits 8 w, storedRem := 1#16 }
  | .dynamicHeader => { s.inRead .idle .dynamicHeader with input := s.input.withBits 14 w }
  | .clenSymbol =>
    { s.inRead .idle .clenSymbol with input := s.input.withBits 1 0, dyn := ⟨257, 1, [.leaf w, .leaf 0], []⟩ }
  | .litlenSymbol =>
    { s.inRead .huff .step with input := s.input.withBits 1 0,
                                ll := some (mkCode s.params.tableBits [.leaf w, .leaf 256]) }
  | .distSymbol =>
    { s.inRead .huff .distSymbol with input := s.input.withBits 1 (if w = dummySym then 1 else 0),
                                      dist := .code (probeDist s.params.tableBits w) }

end Sys2Proof.Machine
end

