-- ==== Sys2Proof/Machine/Run.lean ====
section
/-! DEFINITION. Running one element: its value is read, decoded and executed, and READ's loop test follows (R300, R303). A step
here is finer than R15's: a block header, a dynamic header's fields and symbols, a length symbol and its distance symbol are
read in steps of their own, and no command is accepted between them (log entry 10). -/

namespace Sys2Proof.Machine

/-- Go on after an element: READ's loop test (R300). -/
def afterElement (r : Result) : Result :=
  match r with
  | .next t => .next (settle t)
  | .fault f => .fault f
  | .refused q => .refused q

/-- An element's value is decoded and executed (R124); a value that is no element stops the model. -/
def runValue (f : Format) (v : Nat) (s : State) : Result :=
  match decode f v with
  | .ok i => afterElement (exec i s)
  | .error _ => .fault .symbolOutOfAlphabet

/-- The next command is accepted (R63); without one CORE waits for the host. -/
def runCommand (s : State) : Result :=
  match s.cmds with
  | [] => .next s
  | w :: rest => runValue .command w.value { s with cmds := rest }

/-- The next element of the stream is read and executed (R303). -/
def runElement (s : State) : Result :=
  match expectedFormat s with
  | some f => onInput s (fetchValue f s) fun v t => runValue f v t
  | none => .fault .notDecoding

/-- What CORE does next. Where a source request is never answered, it waits for ever (R359). -/
def runNext (s : State) : Result :=
  match s.phase with
  | .command => runCommand s
  | .waiting => .next s
  | .step | .storedHeader | .dynamicHeader | .clenSymbol | .distSymbol => runElement s

end Sys2Proof.Machine
end

