-- ==== Sys2Proof/Machine/Step.lean ====
section
/-! DEFINITION. One step of CORE, and the state in which the next step runs a given table word. -/

namespace Sys2Proof.Machine

/-- One step: the next command, or the next element of the READ in progress. -/
def step (s : State) : Host.Outcome State Fault Refusal := runNext s

/-- The state in which the next step reads and runs the instruction of a table word (log entry 9). -/
def State.withFetchWord (s : State) (nbits w : Nat) : State := s.withElement (tableFormat nbits w) w

end Sys2Proof.Machine
end

