-- ==== Sys2Proof/Machine/HuffmanSlots.lean ====
section
/-! DEFINITION. BuildTree as R183's pseudocode writes it, slot by slot in an array. `buildTree` builds the same array depth by
depth; that the two agree is stated in the certificates. No step uses this file. -/

namespace Sys2Proof.Machine

/-- A tree under construction (R183): its slots, the open slots of the current depth from left to right, and the symbols
still to be placed. The next node's number is half the number of slots. -/
structure Growing where
  tree : Tree
  opens : List Nat
  todo : List (Nat × Slot)
  deriving DecidableEq, Repr

/-- R183's inner loop: the symbols of length `l` take the open slots from the left. -/
def placeLength (l : Nat) : List (Nat × Slot) → Tree → List Nat → Except Cause Growing
  | [], tree, opens => .ok ⟨tree, opens, []⟩
  | (l', leaf) :: rest, tree, opens =>
    if l' = l then
      match opens with
      | [] => .error .huffOversub
      | slot :: opens' => placeLength l rest (tree.set slot leaf) opens'
    else .ok ⟨tree, opens, (l', leaf) :: rest⟩

/-- R183's deepening: each open slot becomes a node with two new open slots. -/
def deepen : List Nat → Tree → Tree × List Nat
  | [], tree => (tree, [])
  | slot :: opens, tree =>
    let r := deepen opens (tree.set slot (.node (tree.length / 2)) ++ [.opn, .opn])
    (r.1, tree.length :: (tree.length + 1) :: r.2)

/-- R183's outer loop, over the lengths from `l`, within `fuel` lengths. -/
def growSlots : Nat → Nat → Growing → Except Cause Tree
  | 0, _, _ => .error .huffIncomplete
  | fuel + 1, l, g =>
    match placeLength l g.todo g.tree g.opens with
    | .error c => .error c
    | .ok g' =>
      if g'.todo.isEmpty then
        if g'.opens.isEmpty then .ok g'.tree else .error .huffIncomplete
      else
        let d := deepen g'.opens g'.tree
        growSlots fuel (l + 1) ⟨d.1, d.2, g'.todo⟩

/-- `BuildTree(len, kind)`, slot by slot (R183). -/
def buildTreeBySlots (lens : List Nat) (kind : CodeKind) : Except Cause (Option Tree) :=
  let syms := codedSymbols lens
  if kind = .dist ∧ syms = [] then .ok none
  else (growSlots Config.maxCodeLen 1 ⟨[.opn, .opn], [0, 1], withDummy kind syms⟩).map some

end Sys2Proof.Machine
end

