-- ==== Sys2Proof/Safety.lean ====
section
/-! DEFINITION. What counts as a safe state and a safe run, in the terms the statements use: the invariant of the machine, the
input stream still to be read, and the decoded bytes. -/

namespace Sys2Proof.Machine

/-! ## The input stream still to be read -/

/-- The bits of a byte in stream order (R12). -/
def byteBits (b : Byte) : List Bool := bitsLsbFirst 8 b.toNat

/-- The bits of bytes in stream order (R12). -/
def streamBits (bytes : List Byte) : List Bool := bytes.flatMap byteBits

/-- The bits CORE has received and not consumed: those of ACC, then those of INBUF, then those of a direct answer (R161). -/
def Input.pendingBits (inp : Input) : List Bool :=
  bitsLsbFirst inp.accN inp.acc.toNat ++
    (streamBits (bufSlice inp.inbuf inp.inPos (inp.inFill - inp.inPos)) ++ streamBits inp.direct)

/-- All the stream bits from the stream position to the source's end. -/
def Input.ahead (inp : Input) : List Bool := inp.pendingBits ++ streamBits inp.src.rest

/-- The input layer between two operations: the invariants of ACC (R36) and of INBUF (R38), a direct answer is pending only
where ACC and INBUF are empty (R158), and what is pending has been delivered since reset
or since the rewind (R48). -/
structure Input.Sound (inCap : Nat) (inp : Input) : Prop where
  accBits : inp.accN ≤ 63
  accClear : inp.acc.toNat < 2 ^ inp.accN
  cursor : inp.inPos ≤ inp.inFill
  capacity : inp.inFill ≤ inCap
  delivered : (inp.accN + 7) / 8 + (inp.inFill - inp.inPos) + inp.direct.length ≤ inp.recv
  received : inp.recv ≤ inp.src.pos
  sourceEnd : inp.src.pos ≤ inp.src.data.length
  directLast : inp.direct ≠ [] → inp.accN = 0 ∧ inp.inPos = inp.inFill

/-- INBUF holds every byte up to IN_FILL. -/
abbrev Input.Filled (inp : Input) : Prop := inp.inFill ≤ inp.inbuf.length

/-- The read-ahead is what the source delivered: all that is still to be read is the end of the source's bits (R71, R161). -/
def Input.Coherent (inp : Input) : Prop := inp.ahead <:+ streamBits inp.src.data

/-- An input layer from which fields and symbols can be read: sound, its buffer written, no direct answer pending. -/
def Input.Ready (inCap : Nat) (inp : Input) : Prop :=
  1 ≤ inCap ∧ inp.Sound inCap ∧ inp.Filled ∧ inp.direct = []

/-- Two input layers from which the same is read: the same bits ahead, and the same after the source's last byte. -/
def SameStream (a b : Input) : Prop := a.ahead = b.ahead ∧ a.src.ending = b.src.ending

/-- Two states that differ at most in their input layers. -/
def SameButInput (s t : State) : Prop := t = { s with input := t.input }

/-! ## Codes -/

/-- `o[l]` of R185: the open slots at depth `l`, as an integer (negative below an over-subscribed depth). -/
def openSlots (lens : List Nat) : Nat → Int
  | 0 => 1
  | l + 1 => 2 * (openSlots lens l - lengthCount lens l)

/-- The slot the bits lead to from node `k` (R190): none where the tree ends before the bits do. -/
def Tree.follow (t : Tree) : Nat → List Bool → Option Slot
  | k, [] => some (.node k)
  | k, b :: bs =>
    match t.child k b with
    | some (.node k') => t.follow k' bs
    | some slot => if bs = [] then some slot else none
    | none => none

/-! ## Where the input ends -/

/-- What becomes of an element that needs more bits than CORE holds and the source has (R155, R159): the unexpected end of
stream, the source's own error, or waiting for ever (R61, log entry 11), as the source ends. `inp` is what its reads have left. -/
def inputEnded (inp : Input) (s : State) : Result :=
  match s.input.src.ending with
  | .endOfData => .next (fatal .unexpectedEos .empty { s with input := inp })
  | .ioError p => .next (fatal .io (.payload p) { s with input := inp })
  | .silent => .next { s with input := inp, phase := .waiting }

/-! ## The invariant -/

/-- The parameters are in range (R8): a refill requests at least one byte, TABLE_BITS is 1 to 15. -/
def Params.inRange (p : Params) : Prop := 1 ≤ p.inCap ∧ 1 ≤ p.tableBits ∧ p.tableBits ≤ 15

/-- A code as the builder makes it: a full tree of its kind and the table of that tree (R184, R189, R392). -/
def Code.Built (tableBits : Nat) (kind : CodeKind) (c : Code) : Prop :=
  c.tree.full kind = true ∧ c.table = buildTable tableBits c.tree

/-- LL and DIST are there exactly in a Huffman block (R41, R195). -/
def State.CodesOk (s : State) : Prop :=
  if s.mode = .huff then
    (∃ c, s.ll = some c ∧ c.Built s.params.tableBits .litlen) ∧
      (s.dist = .noCode ∨ ∃ c, s.dist = .code c ∧ c.Built s.params.tableBits .dist)
  else s.ll = none ∧ s.dist = .absent

/-- What MODE says of the other control state (R30 to R35) and of the bit alignment (R79, R311). -/
structure State.ModeOk (s : State) : Prop where
  storedLeft : s.mode = .stored → s.storedRem ≠ 0#16
  storedNone : s.mode ≠ .stored → s.mode ≠ .error → s.mode ≠ .closed → s.storedRem = 0#16
  attached : s.mode.decodes = true → s.detached = false
  detachedModes : s.mode = .passthru ∨ s.mode = .released → s.detached = true
  noError : s.mode ≠ .error → s.mode ≠ .closed → s.err = ⟨.noError, .empty⟩
  hasError : s.mode = .error → s.err.code ≠ .noError
  aligned : s.mode = .stored ∨ s.mode = .passthru ∨ s.mode = .released → s.input.accN % 8 = 0
  filled : s.mode ≠ .error → s.mode ≠ .closed → s.input.Filled

/-- The staging buffer (R40, R81, R83). -/
structure State.StageOk (s : State) : Prop where
  cursor : s.stagePos ≤ s.stageLen
  capacity : s.stageLen ≤ Config.stageCap
  emptyTogether : s.stagePos = s.stageLen → s.stageLen = 0
  written : s.mode ≠ .error → s.mode ≠ .closed → s.stageLen ≤ s.stage.length
  emptyInStep : s.phase ≠ .command → s.stageLen = 0
  emptyDetached : s.mode = .passthru → s.stageLen = 0

/-- The work of the step in progress. -/
structure State.PhaseOk (s : State) : Prop where
  noCommand : s.phase = .command → s.rdCount = 0 ∧ s.rdResp = []
  respFits : s.rdResp.length ≤ s.rdCount
  countFits : s.rdCount ≤ Config.readMax
  noDirect : ¬(s.phase = .step ∧ s.mode = .stored) → s.input.direct = []
  directFits : s.input.direct.length ≤ min s.storedRem.toNat s.room ∨ s.phase ≠ .step
  atStep : s.phase = .step → s.mode.decodes = true ∧ 0 < s.room ∧ s.atEos = false
  inHeader : s.phase = .storedHeader ∨ s.phase = .dynamicHeader ∨ s.phase = .clenSymbol → s.mode = .idle ∧ 0 < s.room
  headerAligned : s.phase = .storedHeader → s.input.accN % 8 = 0
  inPair : s.phase = .distSymbol →
    s.mode = .huff ∧ 0 < s.room ∧ s.dist ≠ .noCode ∧ 3 ≤ s.len ∧ s.len ≤ 258
  noPair : s.phase ≠ .distSymbol → s.phase ≠ .waiting → s.len = 0
  inSequence : s.phase = .clenSymbol →
    s.dyn.clt.full .clen = true ∧ 257 ≤ s.dyn.hlit ∧ s.dyn.hlit ≤ 288 ∧ 1 ≤ s.dyn.hdist ∧ s.dyn.hdist ≤ 32 ∧
      s.dyn.lens.length < s.dyn.hlit + s.dyn.hdist ∧ ∀ l ∈ s.dyn.lens, l ≤ 15
  noSequence : s.phase ≠ .clenSymbol → s.phase ≠ .waiting → s.dyn = DynWork.none
  waits : s.phase = .waiting → s.mode.decodes = true ∨ s.mode = .passthru

/-- The machine's invariant. -/
structure Inv (s : State) : Prop where
  params : s.params.inRange
  input : s.input.Sound s.params.inCap
  window : s.win.wf = true
  codes : s.CodesOk
  mode : s.ModeOk
  stage : s.StageOk
  phase : s.PhaseOk

/-- The legal MODE transitions (R31), a mode that stays as it is among them. -/
def Mode.mayBecome (old new : Mode) : Bool :=
  old == new ||
    match old, new with
    | _, .closed => true
    | .idle, .stored | .idle, .huff | .stored, .idle | .huff, .idle => true
    | .idle, .error | .stored, .error | .huff, .error | .passthru, .error | .released, .error => true
    | .idle, .passthru | .stored, .passthru | .huff, .passthru => true
    | .idle, .released | .stored, .released | .huff, .released => true
    | .passthru, .idle => true
    | _, _ => false

/-! ## The operand tables and the code-length-code lengths, as the spec lists them -/

/-- The length rows of spec/opcode_table.json: the element, its base and its extra bits (R112). -/
def lengthRows : List (Instr × Nat × Nat) :=
  [(.len257, 3, 0), (.len258, 4, 0), (.len259, 5, 0), (.len260, 6, 0), (.len261, 7, 0), (.len262, 8, 0),
   (.len263, 9, 0), (.len264, 10, 0), (.len265, 11, 1), (.len266, 13, 1), (.len267, 15, 1), (.len268, 17, 1),
   (.len269, 19, 2), (.len270, 23, 2), (.len271, 27, 2), (.len272, 31, 2), (.len273, 35, 3), (.len274, 43, 3),
   (.len275, 51, 3), (.len276, 59, 3), (.len277, 67, 4), (.len278, 83, 4), (.len279, 99, 4), (.len280, 115, 4),
   (.len281, 131, 5), (.len282, 163, 5), (.len283, 195, 5), (.len284, 227, 5), (.len285, 258, 0)]

/-- The distance rows of spec/opcode_table.json: the element, its base and its extra bits (R113). -/
def distanceRows : List (Instr × Nat × Nat) :=
  [(.dist0, 1, 0), (.dist1, 2, 0), (.dist2, 3, 0), (.dist3, 4, 0), (.dist4, 5, 1), (.dist5, 7, 1),
   (.dist6, 9, 2), (.dist7, 13, 2), (.dist8, 17, 3), (.dist9, 25, 3), (.dist10, 33, 4), (.dist11, 49, 4),
   (.dist12, 65, 5), (.dist13, 97, 5), (.dist14, 129, 6), (.dist15, 193, 6), (.dist16, 257, 7), (.dist17, 385, 7),
   (.dist18, 513, 8), (.dist19, 769, 8), (.dist20, 1025, 9), (.dist21, 1537, 9), (.dist22, 2049, 10),
   (.dist23, 3073, 10), (.dist24, 4097, 11), (.dist25, 6145, 11), (.dist26, 8193, 12), (.dist27, 12289, 12),
   (.dist28, 16385, 13), (.dist29, 24577, 13)]

/-- The code-length-code lengths that `n` fields of 3 bits give (R116, R221): symbol `s` has the field at its place in the
order, and length 0 where the fields do not reach it. -/
def clLengthsOf (n : Nat) (bits : List Bool) : List Nat :=
  (List.range 19).map fun s =>
    match (clOrder.take n).idxOf? s with
    | some j => packBits ((bits.drop (3 * j)).take 3)
    | none => 0

/-! ## The decoded bytes -/

/-- Bytes emitted one after another (R270). -/
def emitAll (bs : List Byte) (s : State) : State := bs.foldl (fun t b => emit b t) s

/-- The bytes a back-reference copies (R271), from the window as it is before the copy: the last `dist` bytes of the history,
over and over. -/
def copiedBytes (s : State) (dist len : Nat) : List Byte :=
  (List.range len).map fun i => s.win.read ((s.winPos.toNat + (32768 - dist) + i % dist) % 32768)

/-- The bytes of a response (R65). -/
def Response.bytes : Response → List Byte
  | .data bs => bs
  | _ => []

/-- The output stream (R90): the bytes of all DATA responses in order. -/
def outputStream (s : State) : List Byte := s.responses.flatMap Response.bytes

/-- The staged bytes not yet delivered (R40). -/
def stagedBytes (s : State) : List Byte := bufSlice s.stage s.stagePos (s.stageLen - s.stagePos)

/-- Every byte that has left the decoder, in order: delivered, in the response being filled, or staged (R90). -/
def emittedBytes (s : State) : List Byte := outputStream s ++ (s.rdResp ++ stagedBytes s)

/-- Whether a response carries data. -/
def Response.isData : Response → Bool
  | .data _ => true
  | _ => false

end Sys2Proof.Machine
end

