-- ==== Sys2Proof/WellFormed.lean ====
section
/-! DEFINITION. Which elements are well-formed: the ranges of the operands that are plain numbers. Every other operand has
its width in its type. -/

namespace Sys2Proof

/-- An element the decoder can read: LEN_RESERVED stands for 286 or 287 (R256), DIST_RESERVED for 30, 31 or DUMMY (R258),
and READ's count is at most READ_MAX (R130, R290). -/
def Instr.wellFormed : Instr → Bool
  | .lenReserved sym => sym == 286 || sym == 287
  | .distReserved sym => sym == 30 || sym == 31 || sym == dummySym
  | .cmdRead count => decide (count ≤ Config.readMax)
  | _ => true

end Sys2Proof
end

