-- ==== Sys2Proof/Certificates/Slice0/Obligations.lean ====
section
/-! DEFINITION. The statements about CORE, family by family: encodings, the input layer, code construction, the stream's
elements, the commands, and the rules of the whole machine. -/

open Sys2Proof Sys2Proof.Machine

/-! ## Encodings -/

/-- Decode and encode agree, both ways: the value of every well-formed instruction decodes to it, with every operand; and a
value that decodes is the value of the well-formed instruction it decodes to (R124, R130). A command word other than READ's
carries no argument. The command word's layout and DUMMY's number are the model's choices (log entries 2 and 3). -/
def Obligations.DecodeAndEncodeAgree : Prop :=
  (∀ i : Instr, i.wellFormed = true → decode (encode i).1 (encode i).2 = .ok i) ∧
    ∀ (f : Format) (v : Nat) (i : Instr), decode f v = .ok i → (f = .command → v % 4 = 0 ∨ v < 4) →
      i.wellFormed = true ∧ encode i = (f, v)

/-- A value of a format is an element of exactly the row whose masked bits it has (R124); a value no row has is one of the
symbol numbers outside the alphabet, and the decoder rejects it. For the commands, whose code R130 gives as 2 bits, the value
is the model's 33-bit command word with the code in bits 1..0: that layout is the model's choice (log entry 3). -/
def Obligations.DecodeSelectsMatchingRow : Prop :=
  ∀ (f : Format) (v : Nat), v < 2 ^ f.width →
    (∀ i, decode f v = .ok i →
      i.row.format = f ∧ ∀ j : Instr, j.row.format = f → ((v &&& j.row.mask = j.row.pattern) ↔ j.row = i.row)) ∧
    ((∃ e, decode f v = .error e) ↔ (f = .clenSymbol ∧ 19 ≤ v) ∨ (f = .litlenSymbol ∧ 288 ≤ v))

/-- A value of every format, written out bit by bit from its encoding, decodes to the element it stands for (R101, R103,
R105, R107 to R109, R130). -/
def Obligations.WrittenOutWordsDecode : Prop :=
  decode .blockHeader 0b000 = .ok (.blockStored false) ∧ decode .blockHeader 0b011 = .ok (.blockFixed true) ∧
    decode .blockHeader 0b100 = .ok (.blockDynamic false) ∧ decode .blockHeader 0b111 = .ok (.blockReserved true) ∧
    decode .storedHeader 0xFFFC0003 = .ok (.storedHeader 0x0003#16 0xFFFC#16) ∧
    decode .storedByte 0x41 = .ok (.storedByte 0x41#8) ∧
    decode .dynamicHeader 0b11100000000010 = .ok (.dynamicHeader 2#5 0#5 14#4) ∧
    decode .clenSymbol 0b01000 = .ok (.clLen 8#4) ∧ decode .clenSymbol 0b10000 = .ok .clRepeatPrev ∧
    decode .clenSymbol 0b10001 = .ok .clZeroShort ∧ decode .clenSymbol 0b10010 = .ok .clZeroLong ∧
    decode .litlenSymbol 0b001100001 = .ok (.lit 0x61#8) ∧ decode .litlenSymbol 0b100000000 = .ok .eob ∧
    decode .litlenSymbol 0b100000001 = .ok .len257 ∧ decode .litlenSymbol 0b100011101 = .ok .len285 ∧
    decode .litlenSymbol 0b100011110 = .ok (.lenReserved 286) ∧ decode .distSymbol 0b00010 = .ok .dist2 ∧
    decode .distSymbol 0b11101 = .ok .dist29 ∧ decode .distSymbol 0b11111 = .ok (.distReserved 31) ∧
    decode .command 0b101000 = .ok (.cmdRead 10) ∧ decode .command 0b01 = .ok .cmdDetach ∧
    decode .command 0b10 = .ok .cmdAttach ∧ decode .command 0b11 = .ok .cmdClose

/-- Every length 3..258 is assembled by one length symbol and one value of its extra bits, but for symbol 284 with extra 31,
the second way to 258, and no other length is assembled; every distance 1..32768 is assembled by exactly one distance symbol
and value of its extra bits, and no other distance is (R112 to R115, R136). -/
def Obligations.EveryLengthAndDistanceHasOneSymbol : Prop :=
  (∀ len, 3 ≤ len → len ≤ 258 → ∃! p : Nat × Nat, 257 ≤ p.1 ∧ p.1 ≤ 285 ∧ p.2 < 2 ^ (lengthOperand p.1).extra ∧
    (lengthOperand p.1).base + p.2 = len ∧ p ≠ (284, 31)) ∧
  (∀ s x, 257 ≤ s → s ≤ 285 → x < 2 ^ (lengthOperand s).extra →
    3 ≤ (lengthOperand s).base + x ∧ (lengthOperand s).base + x ≤ 258) ∧
  (∀ dist, 1 ≤ dist → dist ≤ 32768 →
    ∃! p : Nat × Nat, p.1 ≤ 29 ∧ p.2 < 2 ^ (distanceOperand p.1).extra ∧ (distanceOperand p.1).base + p.2 = dist) ∧
  ∀ d x, d ≤ 29 → x < 2 ^ (distanceOperand d).extra →
    1 ≤ (distanceOperand d).base + x ∧ (distanceOperand d).base + x ≤ 32768

/-! ## The input layer -/

/-- `ReadBits(n)` takes the next `n` stream bits, the first as bit 0, and the stream position advances by `n`; whatever the
source's answers are, the bits that follow are the bits that followed (R151, R48, R71). -/
def Obligations.ReadBitsTakesNextBits : Prop :=
  ∀ (cap n : Nat) (inp : Input), inp.Ready cap → n ≤ 16 → n ≤ inp.ahead.length →
    ∃ inp', readBits cap n inp = .ok (packBits (inp.ahead.take n)) inp' ∧ inp'.ahead = inp.ahead.drop n ∧
      inp'.Ready cap ∧ inp'.streamPos = inp.streamPos + n ∧ inp'.src.data = inp.src.data ∧
      inp'.src.ending = inp.src.ending

/-- `ReadBits(n)` returns stream bits p .. p+n−1 as bits 0 .. n−1, and one read of n + m bits is two reads, split (R152);
`ReadBits(0)` returns 0, consumes nothing and issues no request (R153). -/
def Obligations.ReadBitsOrderAndSplit : Prop :=
  (∀ (cap n v : Nat) (inp inp' : Input), inp.Ready cap → inp.Coherent → n ≤ 16 → readBits cap n inp = .ok v inp' →
    v < 2 ^ n ∧ ∀ j, j < n → v.testBit j = inp.streamBit (inp.streamPos.toNat + j)) ∧
  (∀ (cap n m v : Nat) (inp inp' : Input), inp.Ready cap → n + m ≤ 16 → readBits cap (n + m) inp = .ok v inp' →
    ∃ inp1, readBits cap n inp = .ok (v % 2 ^ n) inp1 ∧ readBits cap m inp1 = .ok (v / 2 ^ n) inp') ∧
  ∀ (cap : Nat) (inp : Input), readBits cap 0 inp = .ok 0 inp

/-- Where the source's bytes do not hold the bits a read needs, the read ends as the source's end says: the unexpected end of
stream, the source's own error with its payload, or waiting (R155, R159, R61). -/
def Obligations.MissingBitsEndAsTheSourceEnds : Prop :=
  ∀ (cap n : Nat) (inp : Input), inp.Ready cap → n ≤ 16 → inp.ahead.length < n →
    ∃ inp', readBits cap n inp =
      match inp.src.ending with
      | .endOfData => .fatal .unexpectedEos .empty inp'
      | .ioError p => .fatal .io (.payload p) inp'
      | .silent => .wait inp'

/-- A source answers a request for `m` bytes with the next 1 to `m` of them in order; past its last byte it answers as it
ends, and so at every later request (R60, R61). -/
def Obligations.SourceAnswersInOrder : Prop :=
  ∀ (m : Nat) (src : Source), 1 ≤ m →
    (src.rest ≠ [] → ∃ k, 1 ≤ k ∧ k ≤ m ∧ (srcRequest m src).1 = .data (src.rest.take k) ∧
      (src.rest.take k).length = k ∧ (srcRequest m src).2.rest = src.rest.drop k) ∧
    (src.rest = [] → (srcRequest m src).1 = (match src.ending with
        | .endOfData => .endOfData
        | .ioError p => .ioError p
        | .silent => .silent) ∧ (srcRequest m src).2.rest = []) ∧
    (srcRequest m src).2.ending = src.ending ∧ (srcRequest m src).2.data = src.data ∧
    (srcRequest m src).2.txns = src.txns ++ [.request m]

/-- No request is made for bits that ACC and INBUF hold; where they do not hold them, the requests made are refills for
IN_CAP bytes (R62, R155). -/
def Obligations.BufferedBitsNeedNoRequest : Prop :=
  ∀ (cap n v : Nat) (inp inp' : Input), inp.Ready cap → n ≤ 16 → readBits cap n inp = .ok v inp' →
    (n ≤ inp.accN + 8 * (inp.inFill - inp.inPos) → inp'.src = inp.src) ∧
    (inp.accN + 8 * (inp.inFill - inp.inPos) < n →
      ∃ k, 1 ≤ k ∧ inp'.src.txns = inp.src.txns ++ List.replicate k (.request cap))

/-- `AlignToByte()` discards the unconsumed bits of the partly consumed byte, `ACC_N mod 8` of them, and issues no source
request (R156). -/
def Obligations.AlignDropsPartialByte : Prop :=
  ∀ (cap : Nat) (inp : Input), inp.Sound cap →
    (alignToByte inp).ahead = inp.ahead.drop (inp.accN % 8) ∧ (alignToByte inp).accN % 8 = 0 ∧
      (alignToByte inp).Sound cap ∧
      alignToByte inp = { inp with acc := (alignToByte inp).acc, accN := (alignToByte inp).accN }

/-- A stored-byte step's byte is the next byte of the stream. It is requested from the source, `m` bytes at most, only where
ACC and INBUF are empty and no byte of an earlier answer is left, and such an answer never enters INBUF (R157, R158, R62). -/
def Obligations.StoredByteComesFromTheNextPlace : Prop :=
  ∀ (cap m : Nat) (inp : Input), 1 ≤ cap → 1 ≤ m → inp.Sound cap → inp.Filled → inp.accN % 8 = 0 →
    8 ≤ inp.ahead.length → ∃ b inp', readStoredByte cap m inp = .ok b inp' ∧ byteBits b = inp.ahead.take 8 ∧
      inp'.ahead = inp.ahead.drop 8 ∧ inp'.inbuf = inp.inbuf ∧ inp'.inFill = inp.inFill ∧
      (if inp.accN = 0 ∧ inp.inPos = inp.inFill ∧ inp.direct = [] then
        inp'.src.txns = inp.src.txns ++ [.request m] ∧ inp'.direct.length < m
      else inp'.src = inp.src)

/-! ## Code construction -/

/-- The outcome of a build by counting (R185): over-subscribed where some length has more symbols than open slots, incomplete
where slots stay open, else a tree. Codes of kind CLEN and LITLEN have no special case, nor has a distance code of two or
more symbols. -/
def Obligations.BuildOutcomeByCounting : Prop :=
  ∀ (lens : List Nat) (kind : CodeKind), (∀ l ∈ lens, l ≤ 15) →
    (kind = .dist → 2 ≤ (lens.filter (· ≠ 0)).length) →
    ((∃ l, 1 ≤ l ∧ l ≤ 15 ∧ openSlots lens l < lengthCount lens l) → buildTree lens kind = .error .huffOversub) ∧
    ((∀ l, 1 ≤ l → l ≤ 15 → (lengthCount lens l : Int) ≤ openSlots lens l) →
      (0 < openSlots lens 16 → buildTree lens kind = .error .huffIncomplete) ∧
      (openSlots lens 16 = 0 → ∃ t, buildTree lens kind = .ok (some t)))

/-- A distance code of no symbol is NONE; of one symbol of length 1, that symbol and DUMMY; of one longer symbol, incomplete
(R186, R187). -/
def Obligations.LoneDistanceCode : Prop :=
  ∀ n : Nat, buildTree (List.replicate n 0) .dist = .ok none ∧
    ∀ s l, s < n → 1 ≤ l → l ≤ 15 → buildTree ((List.replicate n 0).set s l) .dist =
      if l = 1 then .ok (some [.leaf s, .dummy]) else .error .huffIncomplete

/-- A tree that is built is full: every walk ends at a leaf of the alphabet within 15 bits, and it has `2 × (n − 1)` slots for
`n` coded symbols, DUMMY among them (R181, R184, R194). -/
def Obligations.BuiltTreeIsFull : Prop :=
  ∀ (lens : List Nat) (kind : CodeKind) (t : Tree), (∀ l ∈ lens, l ≤ 15) → lens.length ≤ kind.alphabet →
    buildTree lens kind = .ok (some t) →
    t.full kind = true ∧
      t.length = 2 * ((if kind = .dist ∧ (lens.filter (· ≠ 0)).length = 1 then 2
        else (lens.filter (· ≠ 0)).length) - 1)

/-- The built tree is the canonical code of RFC 1951: a symbol's code word by counting leads to its leaf, and no other word
does (R193). -/
def Obligations.BuiltCodeIsCanonical : Prop :=
  ∀ (lens : List Nat) (kind : CodeKind) (t : Tree), (∀ l ∈ lens, l ≤ 15) → buildTree lens kind = .ok (some t) →
    ∀ (s : Nat) (w : List Bool), t.follow 0 w = some (.leaf s) ↔ codeWord lens s = some w

/-- The level-by-level builder of the model is R183's slot-by-slot pseudocode. -/
def Obligations.BuilderFollowsThePseudocode : Prop :=
  ∀ (lens : List Nat) (kind : CodeKind), (∀ l ∈ lens, l ≤ 15) → buildTree lens kind = buildTreeBySlots lens kind

/-- The precomputed fixed trees are what the builder makes of the fixed lengths (R188, R118), and they give the fixed code
words (R119, R120). -/
def Obligations.FixedCodesAreBuilt : Prop :=
  buildTree fixedLitlenLens .litlen = .ok (some fixedLitlenTree) ∧
    buildTree fixedDistLens .dist = .ok (some fixedDistTree) ∧
    (∀ s, 256 ≤ s → s ≤ 279 → fixedLitlenTree.follow 0 (bitsMsbFirst 7 (s - 256)) = some (.leaf s)) ∧
    (∀ s, s ≤ 143 → fixedLitlenTree.follow 0 (bitsMsbFirst 8 (0x30 + s)) = some (.leaf s)) ∧
    (∀ s, 280 ≤ s → s ≤ 287 → fixedLitlenTree.follow 0 (bitsMsbFirst 8 (0xC0 + (s - 280))) = some (.leaf s)) ∧
    (∀ s, 144 ≤ s → s ≤ 255 → fixedLitlenTree.follow 0 (bitsMsbFirst 9 (0x190 + (s - 144))) = some (.leaf s)) ∧
    ∀ s, s ≤ 31 → fixedDistTree.follow 0 (bitsMsbFirst 5 s) = some (.leaf s)

/-- `DecodeSym` decodes a symbol from its code word, bit by bit, and consumes just that word (R190). -/
def Obligations.DecodeSymFollowsCodeWord : Prop :=
  ∀ (cap : Nat) (t : Tree) (inp : Input) (w : List Bool) (slot : Slot) (s : Nat), inp.Ready cap → w.length ≤ 15 →
    t.follow 0 w = some slot → (slot = .leaf s ∨ slot = .dummy ∧ s = dummySym) → w <+: inp.ahead →
    ∃ inp', decodeSym cap t inp = .ok s inp' ∧ inp'.ahead = inp.ahead.drop w.length ∧ inp'.Ready cap ∧
      inp'.src.ending = inp.src.ending

/-- Table-assisted decoding and the tree walk decode the same symbol from the same bits and consume as many, for every
TABLE_BITS from 1 to 15, where TABLE_BITS bits need no source request; and they fail alike and ask the source alike (R189 to
R192, R160). -/
def Obligations.TableDecodesAsTheTreeWalk : Prop :=
  ∀ (cap bits : Nat) (kind : CodeKind) (t : Tree) (inp : Input), t.full kind = true → 1 ≤ bits → bits ≤ 15 →
    inp.Ready cap → bits ≤ inp.accN + 8 * (inp.inFill - inp.inPos) →
    match decodeSym cap t inp with
    | .ok s a => ∃ b, decodeSymByTable cap bits (mkCode bits t) inp = .ok s b ∧ b.pendingBits = a.pendingBits ∧
        b.src = a.src
    | .fatal c i a => ∃ b, decodeSymByTable cap bits (mkCode bits t) inp = .fatal c i b ∧ b.src = a.src
    | .wait a => ∃ b, decodeSymByTable cap bits (mkCode bits t) inp = .wait b ∧ b.src = a.src
    | .stop _ => False

/-! ## Blocks -/

/-- The block headers run in every state; BFINAL = 1 sets FINAL before anything else (R211). BLOCK_STORED aligns the input
(R212), BLOCK_FIXED takes up the fixed codes (R214), BLOCK_DYNAMIC goes on to its count fields (R215), and nothing else changes;
BLOCK_RESERVED raises E_RESERVED_BTYPE, whatever BFINAL is (R216). No bit is read. `phase` is the model's. -/
def Obligations.BlockHeadersRun : Prop :=
  ∀ (f : Bool) (s : State),
    exec (.blockStored f) s =
        .next { s with final := s.final || f, input := alignToByte s.input, phase := .storedHeader } ∧
      exec (.blockFixed f) s =
        .next { s with final := s.final || f, ll := some (mkCode s.params.tableBits fixedLitlenTree),
                       dist := .code (mkCode s.params.tableBits fixedDistTree), mode := .huff } ∧
      exec (.blockDynamic f) s = .next { s with final := s.final || f, phase := .dynamicHeader } ∧
      exec (.blockReserved f) s = .next (fatal .reservedBtype .empty { s with final := s.final || f })

/-- STORED_HEADER with NLEN the complement of LEN opens the block, or ends it at once for LEN = 0 (R212); else it raises
E_STORED_LEN with both fields (R213). -/
def Obligations.StoredHeaderChecksComplement : Prop :=
  ∀ (len nlen : Count16) (s : State),
    (nlen = ~~~len → exec (.storedHeader len nlen) s =
      .next { s with storedRem := len, mode := if len = 0#16 then .idle else .stored, phase := .step }) ∧
    (nlen ≠ ~~~len → exec (.storedHeader len nlen) s = .next (fatal .storedLen (.lengths len nlen) s))

/-- STORED_BYTE emits its byte and counts it off; at the last one the block ends (R217, R218). LIT emits its byte (R252).
Nothing else changes. -/
def Obligations.StoredBytesAndLiteralsEmit : Prop :=
  ∀ (b : Byte) (s : State),
    (s.storedRem.toNat = 1 → exec (.storedByte b) s =
      .next { emitAll [b] s with storedRem := 0#16, mode := .idle }) ∧
    (1 < s.storedRem.toNat → exec (.storedByte b) s =
      .next { emitAll [b] s with storedRem := BitVec.ofNat 16 (s.storedRem.toNat - 1) }) ∧
    exec (.lit b) s = .next (emitAll [b] s)

/-- `k` steps in a stored block copy the next `k` bytes of the stream to the output, unchanged and in order, however the bytes
reach CORE (R217, R103, R158). -/
def Obligations.StoredRunCopiesTheStream : Prop :=
  ∀ (k : Nat) (s : State), Inv s → s.phase = .step → s.mode = .stored → k ≤ s.storedRem.toNat → k ≤ s.room →
    8 * k ≤ s.input.ahead.length →
    ∃ t bs, Host.Core.run core k s = .next t ∧ streamBits bs = s.input.ahead.take (8 * k) ∧ bs.length = k ∧
      emittedBytes t = emittedBytes s ++ bs ∧ t.input.ahead = s.input.ahead.drop (8 * k) ∧
      t.storedRem.toNat + k = s.storedRem.toNat

/-- DYNAMIC_HEADER reads HCLEN + 4 fields of 3 bits into the code-length-code lengths, in CL_ORDER, and builds the
code-length code: an incomplete or over-subscribed one is a fatal error of kind CLEN (R220 to R222, R116). -/
def Obligations.DynamicHeaderBuildsClenCode : Prop :=
  ∀ (hlit hdist : BitVec 5) (hclen : BitVec 4) (s : State), s.input.Ready s.params.inCap →
    3 * (hclen.toNat + 4) ≤ s.input.ahead.length →
    ∃ inp', inp'.ahead = s.input.ahead.drop (3 * (hclen.toNat + 4)) ∧ inp'.Ready s.params.inCap ∧
      ((∃ tree, buildTree (clLengthsOf (hclen.toNat + 4) s.input.ahead) .clen = .ok (some tree) ∧
          exec (.dynamicHeader hlit hdist hclen) s =
            .next { s with input := inp', dyn := ⟨hlit.toNat + 257, hdist.toNat + 1, tree, []⟩, phase := .clenSymbol }) ∨
        ∃ c, buildTree (clLengthsOf (hclen.toNat + 4) s.input.ahead) .clen = .error c ∧
          exec (.dynamicHeader hlit hdist hclen) s = .next (fatal c (.kind .clen) { s with input := inp' }))

/-- The repeat symbols read their extra bits and append 3..6 times the previous length, 3..10 zeros or 11..138 zeros to a
sequence that needs still more; a repeat that runs past the declared lengths is E_CLEN_OVERFLOW, before anything is appended
(R224 to R227). Symbol 16 with no previous length is E_CLEN_NO_PREV, before its extra bits are read (R224). -/
def Obligations.RepeatSymbolsAppendRuns : Prop :=
  (∀ s : State, s.dyn.lens = [] → exec .clRepeatPrev s = .next (fatal .clenNoPrev .empty s)) ∧
  ∀ (i : Instr) (base extra : Nat) (v : Nat) (s : State),
    (i = .clRepeatPrev ∧ base = 3 ∧ extra = 2 ∧ s.dyn.lens.getLast? = some v ∨
      i = .clZeroShort ∧ base = 3 ∧ extra = 3 ∧ v = 0 ∨ i = .clZeroLong ∧ base = 11 ∧ extra = 7 ∧ v = 0) →
    s.input.Ready s.params.inCap → extra ≤ s.input.ahead.length →
    ∃ inp', inp'.ahead = s.input.ahead.drop extra ∧ inp'.Ready s.params.inCap ∧
      let r := base + packBits (s.input.ahead.take extra)
      (s.dyn.lens.length + r < s.dyn.hlit + s.dyn.hdist → exec i s =
        .next { s with input := inp', dyn := { s.dyn with lens := s.dyn.lens ++ List.replicate r v } }) ∧
      (s.dyn.hlit + s.dyn.hdist < s.dyn.lens.length + r →
        exec i s = .next (fatal .clenOverflow .empty { s with input := inp' })) ∧
      (s.dyn.lens.length + r = s.dyn.hlit + s.dyn.hdist →
        exec i s = .next (adoptCodes (s.dyn.lens ++ List.replicate r v) { s with input := inp' }))

/-- CL_LEN appends its length to the sequence, and nothing else changes, while more lengths are declared (R223). The last code
length ends the header: the literal/length code is built first, then the distance code; the first bad one
is a fatal error of its kind; else both are adopted and the block's symbols follow (R223, R227 to R229). -/
def Obligations.CodeLengthsAppendedThenAdopted : Prop :=
  (∀ (len : BitVec 4) (s : State), s.dyn.lens.length + 1 < s.dyn.hlit + s.dyn.hdist →
    exec (.clLen len) s = .next { s with dyn := { s.dyn with lens := s.dyn.lens ++ [len.toNat] } }) ∧
  ∀ (len : BitVec 4) (s : State), s.dyn.lens.length + 1 = s.dyn.hlit + s.dyn.hdist →
    s.dyn.hlit ≤ 288 → s.dyn.hdist ≤ 32 →
    let lens := s.dyn.lens ++ [len.toNat]
    exec (.clLen len) s = .next (adoptCodes lens s) ∧
      let ll := buildTree (lens.take s.dyn.hlit ++ List.replicate (288 - s.dyn.hlit) 0) .litlen
      let dl := buildTree (lens.drop s.dyn.hlit ++ List.replicate (32 - s.dyn.hdist) 0) .dist
      (∀ c, ll = .error c → adoptCodes lens s = fatal c (.kind .litlen) s) ∧
      (∀ tll c, ll = .ok (some tll) → dl = .error c → adoptCodes lens s = fatal c (.kind .dist) s) ∧
      (∀ tll, ll = .ok (some tll) → dl = .ok none → adoptCodes lens s =
        { s with ll := some (mkCode s.params.tableBits tll), dist := .noCode, mode := .huff, phase := .step,
                 dyn := DynWork.none }) ∧
      (∀ tll td, ll = .ok (some tll) → dl = .ok (some td) → adoptCodes lens s =
        { s with ll := some (mkCode s.params.tableBits tll), dist := .code (mkCode s.params.tableBits td), mode := .huff,
                 phase := .step, dyn := DynWork.none })

/-! ## Symbols -/

/-- EOB clears both codes and returns to IDLE; no byte is emitted, no bit read (R251). -/
def Obligations.EndOfBlockClearsCodes : Prop :=
  ∀ s : State, exec .eob s = .next { s with ll := none, dist := .absent, mode := .idle }

/-- Each length symbol assembles its base plus its extra bits, read right after its code word; the distance symbol follows,
and nothing else changes (R253, R110, R112). -/
def Obligations.LengthSymbolsAssemble : Prop :=
  ∀ (i : Instr) (base extra : Nat) (s : State), (i, base, extra) ∈ lengthRows → s.dist ≠ .noCode →
    s.input.Ready s.params.inCap → extra ≤ s.input.ahead.length →
    ∃ inp', exec i s = .next { s with input := inp', len := base + packBits (s.input.ahead.take extra),
                                      phase := .distSymbol } ∧
      inp'.ahead = s.input.ahead.drop extra ∧ inp'.Ready s.params.inCap

/-- Each distance symbol assembles its base plus its extra bits and copies the assembled length from that far back: what is
emitted is the last `dist` bytes of the history over and over; the step ends there, and nothing else changes (R253, R257,
R271, R113). -/
def Obligations.DistanceSymbolsCopy : Prop :=
  ∀ (i : Instr) (base extra : Nat) (s : State), (i, base, extra) ∈ distanceRows → s.win.wf = true →
    s.input.Ready s.params.inCap → extra ≤ s.input.ahead.length →
    ∃ inp', exec i s = .next { emitAll (copiedBytes s (base + packBits (s.input.ahead.take extra)) s.len)
                                 { s with input := inp' } with len := 0, phase := .step } ∧
      inp'.ahead = s.input.ahead.drop extra ∧ inp'.Ready s.params.inCap

/-- The faults of a pair before its bytes (R260): where the input ends inside a length's or a distance's extra bits, the pair
ends as the source does (R155, R159): with E_UNEXPECTED_EOS, with the source's own error, or, where the source never answers,
waiting (R61, log entry 11), also where there is no distance code; in a block without a distance code every length symbol
raises E_NO_DIST_CODE after its extra bits are read (R259). -/
def Obligations.PairFaultsBeforeItsBytes : Prop :=
  (∀ (i : Instr) (base extra : Nat) (s : State), (i, base, extra) ∈ lengthRows ++ distanceRows →
    s.input.Ready s.params.inCap → s.input.ahead.length < extra →
    ∃ inp', exec i s = inputEnded inp' s ∧ inp'.src.rest = [] ∧ inp'.src.data = s.input.src.data) ∧
  ∀ (i : Instr) (base extra : Nat) (s : State), (i, base, extra) ∈ lengthRows → s.dist = .noCode →
    s.input.Ready s.params.inCap → extra ≤ s.input.ahead.length →
    ∃ inp', exec i s = .next (fatal .noDistCode .empty { s with input := inp' }) ∧
      inp'.ahead = s.input.ahead.drop extra

/-- The reserved symbols fault right after their code words: 286 and 287 with E_RESERVED_LITLEN, 30 and 31 with
E_RESERVED_DIST, each with its symbol, and DUMMY with E_RESERVED_DIST and itself (R256, R258). -/
def Obligations.ReservedSymbolsFault : Prop :=
  ∀ s : State,
    (∀ sym, sym = 286 ∨ sym = 287 →
      exec (.lenReserved sym) s = .next (fatal .reservedLitlen (.symbol sym) s)) ∧
    (∀ sym, sym = 30 ∨ sym = 31 → exec (.distReserved sym) s = .next (fatal .reservedDist (.symbol sym) s)) ∧
    exec (.distReserved dummySym) s = .next (fatal .reservedDist .dummy s)

/-- What emitting bytes does (R270, R73, R80): they go into the window from WIN_POS on, modulo its size, every other byte of it
unchanged; and they go to the response while it has room, then to STAGE. Nothing else changes. -/
def Obligations.EmittingFillsWindowAndOutput : Prop :=
  ∀ (bs : List Byte) (s : State), s.win.wf = true → bs.length ≤ 32768 → s.stagePos ≤ s.stageLen →
    s.stageLen ≤ s.stage.length →
    let t := emitAll bs s
    (∀ a, a < 32768 → t.win.read a = (bs[(a + 32768 - s.winPos.toNat) % 32768]?).getD (s.win.read a)) ∧
      t.winPos.toNat = (s.winPos.toNat + bs.length) % 32768 ∧ t.win.wf = true ∧
      t.rdResp = s.rdResp ++ bs.take s.room ∧ stagedBytes t = stagedBytes s ++ bs.drop s.room ∧
      t.stagePos = s.stagePos ∧ t.stageLen = s.stageLen + (bs.drop s.room).length ∧
      t = { s with win := t.win, winPos := t.winPos, rdResp := t.rdResp, stage := t.stage, stageLen := t.stageLen }

/-! ## The fatal error -/

/-- `raise Fatal(code, info)` (R345): the error is recorded, MODE is ERROR, the buffers and codes are released, the command in
progress is answered FAULT with the bytes of its response not delivered, and every register R345 names keeps its value. That
the released buffers are empty and that STAGE_LEN and STAGE_POS keep their values is the model's (log entries 8 and 23). -/
def Obligations.FatalTerminates : Prop :=
  ∀ (c : Cause) (i : ErrInfo) (s : State),
    let t := fatal c i s
    t.err = ⟨c, i⟩ ∧ t.mode = .error ∧ t.responses = s.responses ++ [.fault c i] ∧ t.rdResp = [] ∧ t.rdCount = 0 ∧
      t.phase = .command ∧ t.win = [] ∧ t.input.inbuf = [] ∧ t.stage = [] ∧ t.ll = none ∧ t.dist = .absent ∧
      t.final = s.final ∧ t.detached = s.detached ∧ t.storedRem = s.storedRem ∧ t.winPos = s.winPos ∧
      t.stageLen = s.stageLen ∧ t.stagePos = s.stagePos ∧ t.params = s.params ∧ t.cmds = s.cmds ∧
      t.input.acc = s.input.acc ∧ t.input.accN = s.input.accN ∧ t.input.inPos = s.input.inPos ∧
      t.input.inFill = s.input.inFill ∧ t.input.src = s.input.src

/-! ## Commands -/

/-- READ 0 in a decoding mode answers EOS where the stream has ended and ZERO elsewhere; it decodes nothing, drains nothing
and asks the source nothing (R301). -/
def Obligations.ReadZeroAnswersFromState : Prop :=
  ∀ s : State, s.phase = .command → s.rdCount = 0 → s.rdResp = [] → s.mode.decodes = true →
    exec (.cmdRead 0) s = .next { s with responses := s.responses ++
      [if s.mode = .idle ∧ s.final = true ∧ s.stagePos = s.stageLen then .eos else .zero] }

/-- READ of one byte or more in a decoding mode first drains the staged bytes in order, as far as they fit (R302), and then
goes on to decode; nothing else changes. -/
def Obligations.ReadDrainsStagedBytes : Prop :=
  ∀ (count : Nat) (s : State), 1 ≤ count → s.mode.decodes = true → s.StageOk →
    ∃ t, exec (.cmdRead count) s = .next t ∧ t.rdCount = count ∧ t.rdResp = (stagedBytes s).take count ∧
      stagedBytes t = (stagedBytes s).drop count ∧ t.phase = .step ∧
      (t.stagePos = t.stageLen → t.stageLen = 0) ∧
      t = { s with phase := .step, rdCount := count, rdResp := t.rdResp, stagePos := t.stagePos, stageLen := t.stageLen }

/-- A decoding READ is answered with data only when its response is full or the stream has ended, and never with no data; it
is answered EOS only when the stream has ended and nothing was read (R300, R304). The step that accepts a READ answers it at
once where the staged bytes fill it or the stream has ended behind them, and else goes on to decode (R300 to R302). -/
def Obligations.ReadFillsItsResponse : Prop :=
  (∀ (s t : State) (r : Response), Inv s → s.phase ≠ .command → step s = .next t →
    t.responses = s.responses ++ [r] →
    match r with
    | .data bs => bs ≠ [] ∧ s.rdResp <+: bs ∧ bs.length ≤ s.rdCount ∧ (bs.length = s.rdCount ∨ t.atEos = true)
    | .eos => s.rdResp = [] ∧ t.atEos = true
    | .fault c i => t.mode = .error ∧ t.err = ⟨c, i⟩
    | .zero => False
    | .done => False) ∧
  ∀ (s : State) (w : CmdWord) (rest : List CmdWord), Inv s → s.phase = .command → s.mode.decodes = true →
    s.cmds = w :: rest → w.code = 0#2 →
    (w.count = 0#31 → step s = .next { s with cmds := rest, responses := s.responses ++
      [if s.atEos = true then .eos else .zero] }) ∧
    (w.count ≠ 0#31 → ∃ t, step s = .next t ∧ stagedBytes t = (stagedBytes s).drop w.count.toNat ∧
      (t.stagePos = t.stageLen → t.stageLen = 0) ∧
      if w.count.toNat ≤ (stagedBytes s).length ∨ s.mode = .idle ∧ s.final = true then
        t = { s with cmds := rest, stagePos := t.stagePos, stageLen := t.stageLen, responses := s.responses ++
          [if stagedBytes s = [] then .eos else .data ((stagedBytes s).take w.count.toNat)] }
      else
        t = { s with cmds := rest, stagePos := t.stagePos, stageLen := t.stageLen, phase := .step,
                     rdCount := w.count.toNat, rdResp := stagedBytes s })

/-- A passthrough READ (R322): count 0 is answered ZERO; bytes CORE holds are answered alone, in order, with no request;
else one request for `count` bytes is made and its bytes forwarded, END is EOS and an I/O error fatal (R345). Where the source
never answers, CORE waits (R61, R359), which the model holds as the phase `waiting` (log entry 11). -/
def Obligations.PassthroughReadForwards : Prop :=
  ∀ (count : Nat) (s : State), Inv s → s.mode = .passthru → s.phase = .command →
    (count = 0 → exec (.cmdRead 0) s = .next { s with responses := s.responses ++ [.zero] }) ∧
    (1 ≤ count → 0 < s.input.unconsumed → ∃ bs inp',
      exec (.cmdRead count) s = .next { s with input := inp', responses := s.responses ++ [.data bs] } ∧
        bs.length = min count s.input.unconsumed ∧ streamBits bs = s.input.ahead.take (8 * bs.length) ∧
        inp'.ahead = s.input.ahead.drop (8 * bs.length) ∧ inp'.src = s.input.src) ∧
    (1 ≤ count → s.input.unconsumed = 0 → s.input.src.rest ≠ [] → ∃ bs inp',
      exec (.cmdRead count) s = .next { s with input := inp', responses := s.responses ++ [.data bs] } ∧
        1 ≤ bs.length ∧ bs.length ≤ count ∧ streamBits bs = s.input.ahead.take (8 * bs.length) ∧
        inp'.ahead = s.input.ahead.drop (8 * bs.length) ∧
        inp'.src.txns = s.input.src.txns ++ [.request count]) ∧
    (1 ≤ count → s.input.unconsumed = 0 → s.input.src.rest = [] → ∃ inp',
      inp' = { s.input with src := { s.input.src with txns := s.input.src.txns ++ [.request count] } } ∧
        exec (.cmdRead count) s =
          match s.input.src.ending with
          | .endOfData => .next { s with input := inp', responses := s.responses ++ [.eos] }
          | .ioError p => .next (fatal .io (.payload p) { s with input := inp' })
          | .silent => .next { s with input := inp', phase := .waiting })

/-- DETACH without rewind (R310 to R312): DONE; the decode state is abandoned at the next byte boundary, the staged bytes are
discarded, and the bytes CORE holds are kept for passthrough READs. -/
def Obligations.DetachKeepsUnconsumedBytes : Prop :=
  ∀ s : State, Inv s → s.phase = .command → s.mode.decodes = true → s.params.rewindCapable = false →
    ∃ inp', exec .cmdDetach s = .next { s with
        mode := .passthru, detached := true, input := inp', stagePos := 0, stageLen := 0, ll := none, dist := .absent,
        storedRem := 0#16, responses := s.responses ++ [.done] } ∧
      inp'.ahead = s.input.ahead.drop (s.input.accN % 8) ∧ inp'.accN % 8 = 0 ∧
      inp' = { s.input with acc := inp'.acc, accN := inp'.accN }

/-- DETACH with rewind (R313): the source is handed back exactly at the first unconsumed byte, by one SrcUnread of the bytes
CORE holds, and CORE holds none; the stream position counts from the rewind (R48). -/
def Obligations.DetachRewindsToFirstUnconsumedByte : Prop :=
  ∀ s : State, Inv s → s.input.Coherent → s.phase = .command → s.mode.decodes = true → s.params.rewindCapable = true →
    ∃ inp', exec .cmdDetach s = .next { s with
        mode := .released, detached := true, input := inp', stagePos := 0, stageLen := 0, ll := none, dist := .absent,
        storedRem := 0#16, responses := s.responses ++ [.done] } ∧
      streamBits inp'.src.rest = s.input.ahead.drop (s.input.accN % 8) ∧
      inp'.src.txns = s.input.src.txns ++ [.unread s.input.unconsumed] ∧ inp'.acc = 0#64 ∧ inp'.accN = 0 ∧
      inp'.inPos = 0 ∧ inp'.inFill = 0 ∧ inp'.recv = 0 ∧ inp'.streamPos = 0

/-- ATTACH from PASSTHRU (R315, R316): every element has its reset value but those R53 keeps, ERR and the input buffering;
what STAGE holds is left open (R53). -/
def Obligations.AttachResetsDecodeState : Prop :=
  ∀ s : State, s.mode = .passthru → s.phase = .command → s.rdCount = 0 → s.rdResp = [] →
    ∃ content, exec .cmdAttach s = .next { s with
      mode := .idle, final := false, storedRem := 0#16, detached := false, win := [], winPos := 0#15, stage := content,
      stagePos := 0, stageLen := 0, ll := none, dist := .absent, responses := s.responses ++ [.done] }

/-- CLOSE (R320, R321): from every mode it answers DONE and leaves CORE closed with its buffers and codes released; after the
first one it changes nothing else. ERR is kept. That the released buffers are empty (R86 says so, R320 calls their contents
undefined) and that FINAL, DETACHED, STORED_REM, WIN_POS, ACC and ACC_N are kept is the model's (log entry 8). -/
def Obligations.CloseIsIdempotent : Prop :=
  ∀ s : State, s.phase = .command → s.rdCount = 0 → s.rdResp = [] →
    (s.mode = .closed → exec .cmdClose s = .next { s with responses := s.responses ++ [.done] }) ∧
    (s.mode ≠ .closed → ∃ t, exec .cmdClose s = .next t ∧ t.mode = .closed ∧ t.responses = s.responses ++ [.done] ∧
      t.win = [] ∧ t.input.inbuf = [] ∧ t.stage = [] ∧ t.ll = none ∧ t.dist = .absent ∧ t.err = s.err ∧
      t.final = s.final ∧ t.detached = s.detached ∧ t.storedRem = s.storedRem ∧ t.winPos = s.winPos ∧
      t.input.acc = s.input.acc ∧ t.input.accN = s.input.accN ∧ t.input.src.txns = s.input.src.txns)

/-- In ERROR, READ, DETACH and ATTACH answer the recorded error, verbatim, and change nothing (R346); after CLOSE they answer
E_USE_CLOSED and change nothing, and a later CLOSE answers DONE (R350). -/
def Obligations.ErrorAndClosedAnswersChangeNothing : Prop :=
  ∀ (count : Nat) (i : Instr) (s : State), i = .cmdRead count ∨ i = .cmdDetach ∨ i = .cmdAttach →
    s.phase = .command → s.rdCount = 0 → s.rdResp = [] →
    (s.mode = .error → exec i s = .next { s with responses := s.responses ++ [.fault s.err.code s.err.info] }) ∧
    (s.mode = .closed → exec i s = .next { s with responses := s.responses ++ [.fault .useClosed .empty] } ∧
      exec .cmdClose s = .next { s with responses := s.responses ++ [.done] })

/-- The usage errors that terminate: ATTACH when not detached to passthrough (33), DETACH twice (34), READ after the source
was handed back (35) (R351 to R353). -/
def Obligations.UsageErrorsAreFatal : Prop :=
  ∀ s : State,
    (s.mode.decodes = true ∨ s.mode = .released →
      exec .cmdAttach s = .next (fatal .useAttachNotDetached .empty s)) ∧
    (s.mode ≠ .closed → s.mode ≠ .error → s.detached = true →
      exec .cmdDetach s = .next (fatal .useDetachTwice .empty s)) ∧
    (∀ count, s.mode = .released → exec (.cmdRead count) s = .next (fatal .useReadReleased .empty s))

/-! ## The whole machine -/

/-- Every element's value after reset, for every source and parameters (R53, R381); reset makes no source request. -/
def Obligations.ResetValues : Prop :=
  ∀ (p : Params) (src : Source) (cmds : List CmdWord),
    let s := State.construct p src cmds
    s.mode = .idle ∧ s.final = false ∧ s.storedRem = 0#16 ∧ s.detached = false ∧ s.err = ⟨.noError, .empty⟩ ∧
      s.input.acc = 0#64 ∧ s.input.accN = 0 ∧ s.input.inFill = 0 ∧ s.input.inPos = 0 ∧
      (∀ a, a < 32768 → s.win.read a = 0#8) ∧ s.winPos = 0#15 ∧ s.stageLen = 0 ∧ s.stagePos = 0 ∧ s.ll = none ∧
      s.dist = .absent ∧ s.input.src = src ∧ s.params = p

/-- A step runs the decoded instruction: a command word is accepted and run where no command is in progress; inside a READ the
value of the expected format is read, and what it decodes to is run on the input left by that read. READ's loop test follows
each instruction. A read that fails raises its error (R155, R345). One that is never answered waits for ever (R61, R359); that
the wait is the phase `waiting` is log entry 11. Without a command the state stays as it is (log entry 12). One step is one row
of the opcode table (log entry 10). -/
def Obligations.StepRunsDecodedInstruction : Prop :=
  ∀ s : State,
    (∀ w rest i, s.phase = .command → s.cmds = w :: rest → decode .command w.value = .ok i →
      step s = afterElement (exec i { s with cmds := rest })) ∧
    (s.phase = .command → s.cmds = [] → step s = .next s) ∧
    (s.phase = .waiting → step s = .next s) ∧
    (∀ f v inp i, expectedFormat s = some f → fetchValue f s = .ok v inp → decode f v = .ok i →
      step s = afterElement (exec i { s with input := inp })) ∧
    (∀ f c info inp, expectedFormat s = some f → fetchValue f s = .fatal c info inp →
      step s = .next (fatal c info { s with input := inp })) ∧
    (∀ f inp, expectedFormat s = some f → fetchValue f s = .wait inp →
      step s = .next { s with input := inp, phase := .waiting })

/-- A header or a stored byte is read from the next stream bits: the step runs the value they form, least significant bit
first (R101, R103, R105, R211, R212, R217, R220). -/
def Obligations.FieldStepReadsStreamBits : Prop :=
  ∀ (s : State) (f : Format), Inv s → expectedFormat s = some f →
    f = .blockHeader ∨ f = .storedHeader ∨ f = .storedByte ∨ f = .dynamicHeader →
    f.width ≤ s.input.ahead.length →
    ∃ inp', step s = runValue f (packBits (s.input.ahead.take f.width)) { s with input := inp' } ∧
      inp'.ahead = s.input.ahead.drop f.width

/-- A symbol is read from its code word in the code its format names: the step runs that symbol (R190, R223, R250, R255). -/
def Obligations.SymbolStepReadsCodeWord : Prop :=
  ∀ (s : State) (f : Format) (t : Tree) (w : List Bool) (slot : Slot) (sym : Nat), Inv s → expectedFormat s = some f →
    (f = .clenSymbol ∧ t = s.dyn.clt ∨ f = .litlenSymbol ∧ (∃ c, s.ll = some c ∧ c.tree = t) ∨
      f = .distSymbol ∧ ∃ c, s.dist = .code c ∧ c.tree = t) →
    t.follow 0 w = some slot → (slot = .leaf sym ∨ slot = .dummy ∧ sym = dummySym) → w.length ≤ 15 →
    w <+: s.input.ahead →
    ∃ inp', step s = runValue f sym { s with input := inp' } ∧ inp'.ahead = s.input.ahead.drop w.length

/-- The invariant holds after reset. -/
def Obligations.InvAfterReset : Prop :=
  ∀ (p : Params) (src : Source) (cmds : List CmdWord), p.inRange → src.pos ≤ src.data.length →
    Inv (State.construct p src cmds) ∧ (State.construct p src cmds).input.Coherent

/-- Every step keeps the invariant: ACC, INBUF and STAGE stay within their bounds, the window keeps its form, the codes are
full trees of their kinds exactly in Huffman blocks, and MODE agrees with the other control state (R33 to R41, R81, R83). -/
def Obligations.StepKeepsInvariant : Prop := ∀ s t : State, Inv s → step s = .next t → Inv t

/-- Under the invariant every step goes on: no input, however malformed, and no command stops the machine (R194, R340). -/
def Obligations.StepNeverStops : Prop := ∀ s : State, Inv s → ∃ t, step s = .next t

/-- What CORE holds and what the source has left are always the end of the source's bytes: no stream bit is skipped, repeated
or altered (R71, R161), as long as the buffers are not released; and every
stream bit keeps its number (R12, R48), but by the rewind. -/
def Obligations.StepKeepsStreamCoherent : Prop :=
  ∀ s t : State, Inv s → s.input.Coherent → step s = .next t → t.mode ≠ .error → t.mode ≠ .closed →
    t.input.Coherent ∧ (s.mode = .released ∨ t.mode ≠ .released → ∀ p, t.input.streamBit p = s.input.streamBit p)

/-- MODE changes only as R31 allows; nothing but CLOSE leaves ERROR and nothing leaves CLOSED. -/
def Obligations.ModeTransitionsAreLegal : Prop :=
  ∀ s t : State, Inv s → step s = .next t → s.mode.mayBecome t.mode = true

/-- FINAL goes from 0 to 1 only, but by ATTACH, the one way from PASSTHRU to IDLE; the parameters never change; ERR is written
once; the record of responses only grows (R32, R35, R46, R65). -/
def Obligations.MonotoneState : Prop :=
  ∀ s t : State, Inv s → step s = .next t →
    (s.final = true → t.final = true ∨ s.mode = .passthru ∧ t.mode = .idle) ∧ t.params = s.params ∧
      (s.err.code ≠ .noError → t.err = s.err) ∧ ∃ rs, t.responses = s.responses ++ rs ∧ rs.length ≤ 1

/-- The stream position is 0 after reset, wherever the source stands; it never moves back but by the rewind of R313, which
leaves it at 0; and an element's step moves it on by at least one bit unless it faults or waits (R48, R71, R359). -/
def Obligations.StreamPositionMovesForward : Prop :=
  (∀ (p : Params) (src : Source) (cmds : List CmdWord), (State.construct p src cmds).input.streamPos = 0) ∧
  ∀ s t : State, Inv s → step s = .next t →
    (s.mode = .released ∨ t.mode ≠ .released → s.input.streamPos ≤ t.input.streamPos) ∧
      (s.mode ≠ .released → t.mode = .released → t.input.streamPos = 0) ∧
      (s.phase ≠ .command → t.mode ≠ .error → t.phase ≠ .waiting → s.input.streamPos < t.input.streamPos)

/-- While CORE decodes, the bytes decoded so far, delivered or staged, are only added to, at most 258 in a step (R66, R90,
R254, R305). -/
def Obligations.OutputOnlyGrows : Prop :=
  ∀ s t : State, Inv s → s.mode.decodes = true → t.mode.decodes = true → step s = .next t →
    ∃ bs, emittedBytes t = emittedBytes s ++ bs ∧ bs.length ≤ 258

/-- After a fatal error or CLOSE no data is ever given, whatever commands come (R345 to R347, R350). -/
def Obligations.NoDataAfterAnError : Prop :=
  ∀ (k : Nat) (s t : State), Inv s → s.mode = .error ∨ s.mode = .closed → Host.Core.run core k s = .next t →
    (t.mode = .error ∨ t.mode = .closed) ∧ t.input.src.txns = s.input.src.txns ∧
      ∃ rs, t.responses = s.responses ++ rs ∧ ∀ r ∈ rs, r.isData = false

/-- Once the stream has ended a READ answers EOS and nothing else changes; no further bit is read (R210, R292, R300). -/
def Obligations.EndedStreamReadsNothing : Prop :=
  ∀ (s : State) (w : CmdWord) (rest : List CmdWord), Inv s → s.phase = .command → s.atEos = true →
    s.cmds = w :: rest → w.code = 0#2 →
    step s = .next { s with cmds := rest, responses := s.responses ++ [.eos] }

/-- Over a source that answers, every command in progress ends: within as many steps as there are stream bits left, and one
more, it is answered (R304, R359). -/
def Obligations.EveryReadIsAnswered : Prop :=
  ∀ s : State, Inv s → s.phase ≠ .command → s.phase ≠ .waiting → s.input.src.ending ≠ .silent →
    ∃ k t r, k ≤ s.input.ahead.length + 1 ∧ Host.Core.run core k s = .next t ∧ t.phase = .command ∧
      t.responses = s.responses ++ [r]

/-- What is decoded does not depend on how many bytes the source puts into each answer: two COREs that have the same stream
ahead and differ at most in their input buffering give the same responses to the same READs, step by step (R60, R154, R160;
93_implementation_defined.md I14). -/
def Obligations.ResponsesIndependentOfChunking : Prop :=
  ∀ (k : Nat) (s₁ s₂ t₁ : State), Inv s₁ → Inv s₂ → s₁.mode.decodes = true → SameButInput s₁ s₂ →
    SameStream s₁.input s₂.input → (∀ w ∈ s₁.cmds, w.code = 0#2) → Host.Core.run core k s₁ = .next t₁ →
    ∃ t₂, Host.Core.run core k s₂ = .next t₂ ∧ SameButInput t₁ t₂

/-! ## Headers cut short -/

/-- Where the input ends inside DYNAMIC_HEADER's code-length-code fields, or inside the extra bits of a repeat symbol, the
header ends as the source does (R155, R159; R221, R224 to R226): with E_UNEXPECTED_EOS, with the source's own error, or, where
the source never answers, waiting (R61, log entry 11). Nothing of the header is adopted. -/
def Obligations.DynamicHeaderCutShort : Prop :=
  (∀ (hlit hdist : BitVec 5) (hclen : BitVec 4) (s : State), s.input.Ready s.params.inCap →
    s.input.ahead.length < 3 * (hclen.toNat + 4) →
    ∃ inp', exec (.dynamicHeader hlit hdist hclen) s = inputEnded inp' s ∧ inp'.src.rest = [] ∧
      inp'.src.data = s.input.src.data) ∧
  ∀ (i : Instr) (extra : Nat) (s : State),
    (i = .clRepeatPrev ∧ extra = 2 ∧ s.dyn.lens ≠ [] ∨ i = .clZeroShort ∧ extra = 3 ∨ i = .clZeroLong ∧ extra = 7) →
    s.input.Ready s.params.inCap → s.input.ahead.length < extra →
    ∃ inp', exec i s = inputEnded inp' s ∧ inp'.src.rest = [] ∧ inp'.src.data = s.input.src.data
end

