-- ==== Sys2Proof/Laws/Encode.lean ====
section
/-! SUPPORT. The encoded form of the instructions that have operands. -/

namespace Sys2Proof

@[simp] theorem encode_blockStored (f : Bool) : encode (.blockStored f) = (.blockHeader, 0 + f.toNat) := rfl
@[simp] theorem encode_blockFixed (f : Bool) : encode (.blockFixed f) = (.blockHeader, 2 + f.toNat) := rfl
@[simp] theorem encode_blockDynamic (f : Bool) : encode (.blockDynamic f) = (.blockHeader, 4 + f.toNat) := rfl
@[simp] theorem encode_blockReserved (f : Bool) : encode (.blockReserved f) = (.blockHeader, 6 + f.toNat) := rfl
@[simp] theorem encode_storedHeader (len nlen : Count16) :
    encode (.storedHeader len nlen) = (.storedHeader, 0 + (len.toNat + 65536 * nlen.toNat)) := rfl
@[simp] theorem encode_storedByte (b : Byte) : encode (.storedByte b) = (.storedByte, 0 + b.toNat) := rfl
@[simp] theorem encode_dynamicHeader (hlit hdist : BitVec 5) (hclen : BitVec 4) :
    encode (.dynamicHeader hlit hdist hclen) =
      (.dynamicHeader, 0 + (hlit.toNat + 32 * hdist.toNat + 1024 * hclen.toNat)) := rfl
@[simp] theorem encode_clLen (len : BitVec 4) : encode (.clLen len) = (.clenSymbol, 0 + len.toNat) := rfl
@[simp] theorem encode_lit (b : Byte) : encode (.lit b) = (.litlenSymbol, 0 + b.toNat) := rfl
@[simp] theorem encode_lenReserved (sym : Nat) :
    encode (.lenReserved sym) = (.litlenSymbol, 286 + (sym - 286)) := rfl
@[simp] theorem encode_distReserved (sym : Nat) : encode (.distReserved sym) = (.distSymbol, 30 + (sym - 30)) := rfl
@[simp] theorem encode_cmdRead (count : Nat) : encode (.cmdRead count) = (.command, 0 + 4 * count) := rfl

end Sys2Proof
end

