-- ==== Sys2Proof/Laws/Input.lean ====
section
/-! SUPPORT. What the input operations can do: how a sequence of reads ends, what a source answers, what a refill leaves. -/

namespace Sys2Proof.Machine

section
variable {α β : Type} {r : InRes α} {k : α → Input → InRes β}

@[simp] theorem InRes.andThen_of_ok (a : α) (inp : Input) : (InRes.ok a inp).andThen k = k a inp := rfl
@[simp] theorem InRes.andThen_of_fatal (c : Cause) (i : ErrInfo) (inp : Input) :
    (InRes.fatal c i inp : InRes α).andThen k = .fatal c i inp := rfl
@[simp] theorem InRes.andThen_of_wait (inp : Input) : (InRes.wait inp : InRes α).andThen k = .wait inp := rfl
@[simp] theorem InRes.andThen_of_stop (f : Fault) : (InRes.stop f : InRes α).andThen k = .stop f := rfl

/-- A sequence of two reads ends with a value exactly where both do. -/
theorem InRes.andThen_eq_ok {b : β} {inp' : Input} :
    r.andThen k = .ok b inp' ↔ ∃ a inp, r = .ok a inp ∧ k a inp = .ok b inp' := by
  cases r <;> simp

/-- A sequence of two reads raises a fatal error in its first or in its second read. -/
theorem InRes.andThen_eq_fatal {c : Cause} {i : ErrInfo} {inp' : Input} :
    r.andThen k = .fatal c i inp' ↔
      r = .fatal c i inp' ∨ ∃ a inp, r = .ok a inp ∧ k a inp = .fatal c i inp' := by
  cases r <;> simp

/-- A sequence of two reads waits in its first or in its second read. -/
theorem InRes.andThen_eq_wait {inp' : Input} :
    r.andThen k = .wait inp' ↔ r = .wait inp' ∨ ∃ a inp, r = .ok a inp ∧ k a inp = .wait inp' := by
  cases r <;> simp

/-- A sequence of two reads stops the model in its first or in its second read. -/
theorem InRes.andThen_eq_stop {f : Fault} :
    r.andThen k = .stop f ↔ r = .stop f ∨ ∃ a inp, r = .ok a inp ∧ k a inp = .stop f := by
  cases r <;> simp
end

/-- The size of an answer to a request for at least one byte is in range (R60). -/
theorem Source.answerSize_bounds (src : Source) {m : Nat} (hm : 1 ≤ m) (hrest : src.rest ≠ []) :
    1 ≤ src.answerSize m ∧ src.answerSize m ≤ m ∧ src.answerSize m ≤ src.rest.length := by
  have hlen : 1 ≤ src.rest.length := List.length_pos_iff.mpr hrest
  unfold Source.answerSize
  omega

/-- What a source request answers and leaves. -/
theorem srcRequest_cases (m : Nat) (src : Source) :
    (src.rest ≠ [] ∧ srcRequest m src =
        (.data (src.rest.take (src.answerSize m)),
          { src with txns := src.txns ++ [.request m], pos := src.pos + src.answerSize m, draws := src.draws.tail })) ∨
      (src.rest = [] ∧ (srcRequest m src).2 = { src with txns := src.txns ++ [.request m] } ∧
        (srcRequest m src).1 =
          match src.ending with
          | .endOfData => .endOfData
          | .ioError p => .ioError p
          | .silent => .silent) := by
  unfold srcRequest
  by_cases h : src.rest = []
  · refine .inr ⟨h, ?_⟩
    simp only [h, List.isEmpty_nil, if_true]
    cases src.ending <;> exact ⟨rfl, rfl⟩
  · refine .inl ⟨h, ?_⟩
    have : src.rest.isEmpty = false := by simpa using h
    simp [this]

/-- What a request of CORE's answers and leaves (R60): the next bytes of the source, counted by B_recv (R48), or what follows
the last one. -/
theorem Input.request_cases (m : Nat) (inp : Input) :
    (inp.src.rest ≠ [] ∧ ∃ bs, bs = inp.src.rest.take (inp.src.answerSize m) ∧
        inp.request m = (.data bs, { inp with recv := inp.recv + bs.length,
                                              src := { inp.src with txns := inp.src.txns ++ [.request m],
                                                                    pos := inp.src.pos + inp.src.answerSize m,
                                                                    draws := inp.src.draws.tail } })) ∨
      (inp.src.rest = [] ∧
        inp.request m = ((match inp.src.ending with
          | .endOfData => .endOfData
          | .ioError p => .ioError p
          | .silent => .silent),
          { inp with src := { inp.src with txns := inp.src.txns ++ [.request m] } })) := by
  rcases srcRequest_cases m inp.src with ⟨h, hr⟩ | ⟨h, hs, ha⟩
  · exact .inl ⟨h, _, rfl, by simp only [Input.request, hr, SrcAnswer.bytes]⟩
  · refine .inr ⟨h, ?_⟩
    simp only [Input.request, hs, ha]
    cases inp.src.ending <;> rfl

/-- A request of CORE's leaves the accumulator and the buffers as they are. -/
theorem Input.request_frame (m : Nat) (inp : Input) :
    (inp.request m).2 = { inp with recv := (inp.request m).2.recv, src := (srcRequest m inp.src).2 } := rfl

/-- What a refill does (R155): INBUF holds the answer and is read from its start, or a fatal error is to be raised, or CORE
waits. -/
theorem refillInput_cases (cap : Nat) (inp : Input) :
    (∃ bs inp', inp.request cap = (.data bs, inp') ∧
        refillInput cap inp = .ok () { inp' with inbuf := bs, inFill := bs.length, inPos := 0 }) ∨
      (∃ inp', inp.request cap = (.endOfData, inp') ∧ refillInput cap inp = .fatal .unexpectedEos .empty inp') ∨
      (∃ p inp', inp.request cap = (.ioError p, inp') ∧ refillInput cap inp = .fatal .io (.payload p) inp') ∨
      (∃ inp', inp.request cap = (.silent, inp') ∧ refillInput cap inp = .wait inp') := by
  rcases h : inp.request cap with ⟨a, inp'⟩
  unfold refillInput
  rw [h]
  cases a with
  | data bs => exact .inl ⟨bs, inp', rfl, rfl⟩
  | endOfData => exact .inr (.inl ⟨inp', rfl, rfl⟩)
  | ioError p => exact .inr (.inr (.inl ⟨p, inp', rfl, rfl⟩))
  | silent => exact .inr (.inr (.inr ⟨inp', rfl, rfl⟩))

/-- While INBUF holds a byte, the next input byte comes from it (R154). -/
theorem nextInputByte_buffered (cap : Nat) {inp : Input} (h : inp.inPos ≠ inp.inFill) :
    nextInputByte cap inp = .ok (bufGet inp.inbuf inp.inPos) { inp with inPos := inp.inPos + 1 } := by
  simp [nextInputByte, h, takeBuffered]

/-- While ACC holds enough bits, nothing enters it (R151). -/
theorem fillAcc_enough (cap : Nat) {n fuel : Nat} {inp : Input} (h : n ≤ inp.accN) :
    fillAcc cap n fuel inp = .ok () inp := by
  cases fuel with
  | zero => rfl
  | succ k => simp [fillAcc, Nat.not_lt.mpr h]

/-- While ACC holds enough bits, a read takes them from its low end (R151). -/
theorem readBits_enough (cap : Nat) {n : Nat} {inp : Input} (h : n ≤ inp.accN) :
    readBits cap n inp =
      .ok (inp.acc.toNat % 2 ^ n) { inp with acc := inp.acc >>> n, accN := inp.accN - n } := by
  simp [readBits, fillAcc_enough cap h, takeBits]

/-- The next input byte is read or a fatal error or a wait results; the model does not stop. -/
theorem nextInputByte_ne_stop (cap : Nat) (inp : Input) (f : Fault) : nextInputByte cap inp ≠ .stop f := by
  unfold nextInputByte
  split
  · rcases refillInput_cases cap inp with ⟨_, _, _, h⟩ | ⟨_, _, h⟩ | ⟨_, _, _, h⟩ | ⟨_, _, h⟩ <;> simp [h, takeBuffered]
  · simp [takeBuffered]

/-- Reading bits never stops the model. -/
theorem readBits_ne_stop (cap n : Nat) (inp : Input) (f : Fault) : readBits cap n inp ≠ .stop f := by
  have hfill : ∀ fuel inp, fillAcc cap n fuel inp ≠ .stop f := by
    intro fuel
    induction fuel with
    | zero => intro inp h; simp [fillAcc] at h
    | succ k ih =>
      intro inp h
      unfold fillAcc at h
      split at h
      · rcases InRes.andThen_eq_stop.mp h with h | ⟨_, _, _, h⟩
        · exact nextInputByte_ne_stop cap inp f h
        · exact ih _ h
      · simp at h
  intro h
  rcases InRes.andThen_eq_stop.mp h with h | ⟨_, _, _, h⟩
  · exact hfill _ _ h
  · simp [takeBits] at h

end Sys2Proof.Machine
end

