-- ==== Sys2Proof/Laws/State.lean ====
section
/-! SUPPORT. One lemma per field for each operation on the state: what it sets, and that it leaves every other field. -/

namespace Sys2Proof.Machine

/-! ## WinPut (R73) -/

@[simp] theorem winPut_params (b : Byte) (s : State) : (winPut b s).params = s.params := rfl
@[simp] theorem winPut_mode (b : Byte) (s : State) : (winPut b s).mode = s.mode := rfl
@[simp] theorem winPut_final (b : Byte) (s : State) : (winPut b s).final = s.final := rfl
@[simp] theorem winPut_storedRem (b : Byte) (s : State) : (winPut b s).storedRem = s.storedRem := rfl
@[simp] theorem winPut_detached (b : Byte) (s : State) : (winPut b s).detached = s.detached := rfl
@[simp] theorem winPut_err (b : Byte) (s : State) : (winPut b s).err = s.err := rfl
@[simp] theorem winPut_input (b : Byte) (s : State) : (winPut b s).input = s.input := rfl
@[simp] theorem winPut_win (b : Byte) (s : State) : (winPut b s).win = s.win.write s.winPos.toNat b := rfl
@[simp] theorem winPut_winPos (b : Byte) (s : State) : (winPut b s).winPos = s.winPos + 1#15 := rfl
@[simp] theorem winPut_stage (b : Byte) (s : State) : (winPut b s).stage = s.stage := rfl
@[simp] theorem winPut_stageLen (b : Byte) (s : State) : (winPut b s).stageLen = s.stageLen := rfl
@[simp] theorem winPut_stagePos (b : Byte) (s : State) : (winPut b s).stagePos = s.stagePos := rfl
@[simp] theorem winPut_ll (b : Byte) (s : State) : (winPut b s).ll = s.ll := rfl
@[simp] theorem winPut_dist (b : Byte) (s : State) : (winPut b s).dist = s.dist := rfl
@[simp] theorem winPut_phase (b : Byte) (s : State) : (winPut b s).phase = s.phase := rfl
@[simp] theorem winPut_dyn (b : Byte) (s : State) : (winPut b s).dyn = s.dyn := rfl
@[simp] theorem winPut_len (b : Byte) (s : State) : (winPut b s).len = s.len := rfl
@[simp] theorem winPut_cmds (b : Byte) (s : State) : (winPut b s).cmds = s.cmds := rfl
@[simp] theorem winPut_rdCount (b : Byte) (s : State) : (winPut b s).rdCount = s.rdCount := rfl
@[simp] theorem winPut_rdResp (b : Byte) (s : State) : (winPut b s).rdResp = s.rdResp := rfl
@[simp] theorem winPut_responses (b : Byte) (s : State) : (winPut b s).responses = s.responses := rfl

/-! ## The delivery of a byte (R80) -/

@[simp] theorem deliver_params (b : Byte) (s : State) : (deliver b s).params = s.params := by unfold deliver; split <;> rfl
@[simp] theorem deliver_mode (b : Byte) (s : State) : (deliver b s).mode = s.mode := by unfold deliver; split <;> rfl
@[simp] theorem deliver_final (b : Byte) (s : State) : (deliver b s).final = s.final := by unfold deliver; split <;> rfl
@[simp] theorem deliver_storedRem (b : Byte) (s : State) : (deliver b s).storedRem = s.storedRem := by unfold deliver; split <;> rfl
@[simp] theorem deliver_detached (b : Byte) (s : State) : (deliver b s).detached = s.detached := by unfold deliver; split <;> rfl
@[simp] theorem deliver_err (b : Byte) (s : State) : (deliver b s).err = s.err := by unfold deliver; split <;> rfl
@[simp] theorem deliver_input (b : Byte) (s : State) : (deliver b s).input = s.input := by unfold deliver; split <;> rfl
@[simp] theorem deliver_win (b : Byte) (s : State) : (deliver b s).win = s.win := by unfold deliver; split <;> rfl
@[simp] theorem deliver_winPos (b : Byte) (s : State) : (deliver b s).winPos = s.winPos := by unfold deliver; split <;> rfl
@[simp] theorem deliver_stagePos (b : Byte) (s : State) : (deliver b s).stagePos = s.stagePos := by unfold deliver; split <;> rfl
@[simp] theorem deliver_ll (b : Byte) (s : State) : (deliver b s).ll = s.ll := by unfold deliver; split <;> rfl
@[simp] theorem deliver_dist (b : Byte) (s : State) : (deliver b s).dist = s.dist := by unfold deliver; split <;> rfl
@[simp] theorem deliver_phase (b : Byte) (s : State) : (deliver b s).phase = s.phase := by unfold deliver; split <;> rfl
@[simp] theorem deliver_dyn (b : Byte) (s : State) : (deliver b s).dyn = s.dyn := by unfold deliver; split <;> rfl
@[simp] theorem deliver_len (b : Byte) (s : State) : (deliver b s).len = s.len := by unfold deliver; split <;> rfl
@[simp] theorem deliver_cmds (b : Byte) (s : State) : (deliver b s).cmds = s.cmds := by unfold deliver; split <;> rfl
@[simp] theorem deliver_rdCount (b : Byte) (s : State) : (deliver b s).rdCount = s.rdCount := by unfold deliver; split <;> rfl
@[simp] theorem deliver_responses (b : Byte) (s : State) : (deliver b s).responses = s.responses := by unfold deliver; split <;> rfl

/-! ## Emit (R270) -/

@[simp] theorem emit_params (b : Byte) (s : State) : (emit b s).params = s.params := by simp [emit]
@[simp] theorem emit_mode (b : Byte) (s : State) : (emit b s).mode = s.mode := by simp [emit]
@[simp] theorem emit_final (b : Byte) (s : State) : (emit b s).final = s.final := by simp [emit]
@[simp] theorem emit_storedRem (b : Byte) (s : State) : (emit b s).storedRem = s.storedRem := by simp [emit]
@[simp] theorem emit_detached (b : Byte) (s : State) : (emit b s).detached = s.detached := by simp [emit]
@[simp] theorem emit_err (b : Byte) (s : State) : (emit b s).err = s.err := by simp [emit]
@[simp] theorem emit_input (b : Byte) (s : State) : (emit b s).input = s.input := by simp [emit]
@[simp] theorem emit_win (b : Byte) (s : State) : (emit b s).win = s.win.write s.winPos.toNat b := by simp [emit]
@[simp] theorem emit_winPos (b : Byte) (s : State) : (emit b s).winPos = s.winPos + 1#15 := by simp [emit]
@[simp] theorem emit_stagePos (b : Byte) (s : State) : (emit b s).stagePos = s.stagePos := by simp [emit]
@[simp] theorem emit_ll (b : Byte) (s : State) : (emit b s).ll = s.ll := by simp [emit]
@[simp] theorem emit_dist (b : Byte) (s : State) : (emit b s).dist = s.dist := by simp [emit]
@[simp] theorem emit_phase (b : Byte) (s : State) : (emit b s).phase = s.phase := by simp [emit]
@[simp] theorem emit_dyn (b : Byte) (s : State) : (emit b s).dyn = s.dyn := by simp [emit]
@[simp] theorem emit_len (b : Byte) (s : State) : (emit b s).len = s.len := by simp [emit]
@[simp] theorem emit_cmds (b : Byte) (s : State) : (emit b s).cmds = s.cmds := by simp [emit]
@[simp] theorem emit_rdCount (b : Byte) (s : State) : (emit b s).rdCount = s.rdCount := by simp [emit]
@[simp] theorem emit_responses (b : Byte) (s : State) : (emit b s).responses = s.responses := by simp [emit]

/-! ## A response (R63) -/

@[simp] theorem respond_params (r : Response) (s : State) : (respond r s).params = s.params := rfl
@[simp] theorem respond_mode (r : Response) (s : State) : (respond r s).mode = s.mode := rfl
@[simp] theorem respond_final (r : Response) (s : State) : (respond r s).final = s.final := rfl
@[simp] theorem respond_storedRem (r : Response) (s : State) : (respond r s).storedRem = s.storedRem := rfl
@[simp] theorem respond_detached (r : Response) (s : State) : (respond r s).detached = s.detached := rfl
@[simp] theorem respond_err (r : Response) (s : State) : (respond r s).err = s.err := rfl
@[simp] theorem respond_input (r : Response) (s : State) : (respond r s).input = s.input := rfl
@[simp] theorem respond_win (r : Response) (s : State) : (respond r s).win = s.win := rfl
@[simp] theorem respond_winPos (r : Response) (s : State) : (respond r s).winPos = s.winPos := rfl
@[simp] theorem respond_stage (r : Response) (s : State) : (respond r s).stage = s.stage := rfl
@[simp] theorem respond_stageLen (r : Response) (s : State) : (respond r s).stageLen = s.stageLen := rfl
@[simp] theorem respond_stagePos (r : Response) (s : State) : (respond r s).stagePos = s.stagePos := rfl
@[simp] theorem respond_ll (r : Response) (s : State) : (respond r s).ll = s.ll := rfl
@[simp] theorem respond_dist (r : Response) (s : State) : (respond r s).dist = s.dist := rfl
@[simp] theorem respond_phase (r : Response) (s : State) : (respond r s).phase = .command := rfl
@[simp] theorem respond_dyn (r : Response) (s : State) : (respond r s).dyn = s.dyn := rfl
@[simp] theorem respond_len (r : Response) (s : State) : (respond r s).len = s.len := rfl
@[simp] theorem respond_cmds (r : Response) (s : State) : (respond r s).cmds = s.cmds := rfl
@[simp] theorem respond_rdCount (r : Response) (s : State) : (respond r s).rdCount = 0 := rfl
@[simp] theorem respond_rdResp (r : Response) (s : State) : (respond r s).rdResp = [] := rfl
@[simp] theorem respond_responses (r : Response) (s : State) : (respond r s).responses = s.responses ++ [r] := rfl

/-! ## The release of the buffers (R86) -/

@[simp] theorem releaseBuffers_params (s : State) : (releaseBuffers s).params = s.params := rfl
@[simp] theorem releaseBuffers_mode (s : State) : (releaseBuffers s).mode = s.mode := rfl
@[simp] theorem releaseBuffers_final (s : State) : (releaseBuffers s).final = s.final := rfl
@[simp] theorem releaseBuffers_storedRem (s : State) : (releaseBuffers s).storedRem = s.storedRem := rfl
@[simp] theorem releaseBuffers_detached (s : State) : (releaseBuffers s).detached = s.detached := rfl
@[simp] theorem releaseBuffers_err (s : State) : (releaseBuffers s).err = s.err := rfl
@[simp] theorem releaseBuffers_input (s : State) : (releaseBuffers s).input = { s.input with inbuf := [], direct := [] } := rfl
@[simp] theorem releaseBuffers_win (s : State) : (releaseBuffers s).win = [] := rfl
@[simp] theorem releaseBuffers_winPos (s : State) : (releaseBuffers s).winPos = s.winPos := rfl
@[simp] theorem releaseBuffers_stage (s : State) : (releaseBuffers s).stage = [] := rfl
@[simp] theorem releaseBuffers_stageLen (s : State) : (releaseBuffers s).stageLen = s.stageLen := rfl
@[simp] theorem releaseBuffers_stagePos (s : State) : (releaseBuffers s).stagePos = s.stagePos := rfl
@[simp] theorem releaseBuffers_ll (s : State) : (releaseBuffers s).ll = none := rfl
@[simp] theorem releaseBuffers_dist (s : State) : (releaseBuffers s).dist = .absent := rfl
@[simp] theorem releaseBuffers_phase (s : State) : (releaseBuffers s).phase = s.phase := rfl
@[simp] theorem releaseBuffers_dyn (s : State) : (releaseBuffers s).dyn = DynWork.none := rfl
@[simp] theorem releaseBuffers_len (s : State) : (releaseBuffers s).len = 0 := rfl
@[simp] theorem releaseBuffers_cmds (s : State) : (releaseBuffers s).cmds = s.cmds := rfl
@[simp] theorem releaseBuffers_rdCount (s : State) : (releaseBuffers s).rdCount = s.rdCount := rfl
@[simp] theorem releaseBuffers_rdResp (s : State) : (releaseBuffers s).rdResp = s.rdResp := rfl
@[simp] theorem releaseBuffers_responses (s : State) : (releaseBuffers s).responses = s.responses := rfl

/-! ## The fatal error (R345) -/

@[simp] theorem fatal_params (c : Cause) (i : ErrInfo) (s : State) : (fatal c i s).params = s.params := rfl
@[simp] theorem fatal_mode (c : Cause) (i : ErrInfo) (s : State) : (fatal c i s).mode = .error := rfl
@[simp] theorem fatal_final (c : Cause) (i : ErrInfo) (s : State) : (fatal c i s).final = s.final := rfl
@[simp] theorem fatal_storedRem (c : Cause) (i : ErrInfo) (s : State) : (fatal c i s).storedRem = s.storedRem := rfl
@[simp] theorem fatal_detached (c : Cause) (i : ErrInfo) (s : State) : (fatal c i s).detached = s.detached := rfl
@[simp] theorem fatal_err (c : Cause) (i : ErrInfo) (s : State) : (fatal c i s).err = ⟨c, i⟩ := rfl
@[simp] theorem fatal_input (c : Cause) (i : ErrInfo) (s : State) : (fatal c i s).input = { s.input with inbuf := [], direct := [] } := rfl
@[simp] theorem fatal_win (c : Cause) (i : ErrInfo) (s : State) : (fatal c i s).win = [] := rfl
@[simp] theorem fatal_winPos (c : Cause) (i : ErrInfo) (s : State) : (fatal c i s).winPos = s.winPos := rfl
@[simp] theorem fatal_stage (c : Cause) (i : ErrInfo) (s : State) : (fatal c i s).stage = [] := rfl
@[simp] theorem fatal_stageLen (c : Cause) (i : ErrInfo) (s : State) : (fatal c i s).stageLen = s.stageLen := rfl
@[simp] theorem fatal_stagePos (c : Cause) (i : ErrInfo) (s : State) : (fatal c i s).stagePos = s.stagePos := rfl
@[simp] theorem fatal_ll (c : Cause) (i : ErrInfo) (s : State) : (fatal c i s).ll = none := rfl
@[simp] theorem fatal_dist (c : Cause) (i : ErrInfo) (s : State) : (fatal c i s).dist = .absent := rfl
@[simp] theorem fatal_phase (c : Cause) (i : ErrInfo) (s : State) : (fatal c i s).phase = .command := rfl
@[simp] theorem fatal_dyn (c : Cause) (i : ErrInfo) (s : State) : (fatal c i s).dyn = DynWork.none := rfl
@[simp] theorem fatal_len (c : Cause) (i : ErrInfo) (s : State) : (fatal c i s).len = 0 := rfl
@[simp] theorem fatal_cmds (c : Cause) (i : ErrInfo) (s : State) : (fatal c i s).cmds = s.cmds := rfl
@[simp] theorem fatal_rdCount (c : Cause) (i : ErrInfo) (s : State) : (fatal c i s).rdCount = 0 := rfl
@[simp] theorem fatal_rdResp (c : Cause) (i : ErrInfo) (s : State) : (fatal c i s).rdResp = [] := rfl
@[simp] theorem fatal_responses (c : Cause) (i : ErrInfo) (s : State) : (fatal c i s).responses = s.responses ++ [.fault c i] := rfl

/-! ## Drain (R302) -/

@[simp] theorem drain_params (s : State) : (drain s).params = s.params := by unfold drain; dsimp only; split <;> rfl
@[simp] theorem drain_mode (s : State) : (drain s).mode = s.mode := by unfold drain; dsimp only; split <;> rfl
@[simp] theorem drain_final (s : State) : (drain s).final = s.final := by unfold drain; dsimp only; split <;> rfl
@[simp] theorem drain_storedRem (s : State) : (drain s).storedRem = s.storedRem := by unfold drain; dsimp only; split <;> rfl
@[simp] theorem drain_detached (s : State) : (drain s).detached = s.detached := by unfold drain; dsimp only; split <;> rfl
@[simp] theorem drain_err (s : State) : (drain s).err = s.err := by unfold drain; dsimp only; split <;> rfl
@[simp] theorem drain_input (s : State) : (drain s).input = s.input := by unfold drain; dsimp only; split <;> rfl
@[simp] theorem drain_win (s : State) : (drain s).win = s.win := by unfold drain; dsimp only; split <;> rfl
@[simp] theorem drain_winPos (s : State) : (drain s).winPos = s.winPos := by unfold drain; dsimp only; split <;> rfl
@[simp] theorem drain_stage (s : State) : (drain s).stage = s.stage := by unfold drain; dsimp only; split <;> rfl
@[simp] theorem drain_ll (s : State) : (drain s).ll = s.ll := by unfold drain; dsimp only; split <;> rfl
@[simp] theorem drain_dist (s : State) : (drain s).dist = s.dist := by unfold drain; dsimp only; split <;> rfl
@[simp] theorem drain_phase (s : State) : (drain s).phase = s.phase := by unfold drain; dsimp only; split <;> rfl
@[simp] theorem drain_dyn (s : State) : (drain s).dyn = s.dyn := by unfold drain; dsimp only; split <;> rfl
@[simp] theorem drain_len (s : State) : (drain s).len = s.len := by unfold drain; dsimp only; split <;> rfl
@[simp] theorem drain_cmds (s : State) : (drain s).cmds = s.cmds := by unfold drain; dsimp only; split <;> rfl
@[simp] theorem drain_rdCount (s : State) : (drain s).rdCount = s.rdCount := by unfold drain; dsimp only; split <;> rfl
@[simp] theorem drain_rdResp (s : State) : (drain s).rdResp = s.rdResp ++ bufSlice s.stage s.stagePos (min s.room (s.stageLen - s.stagePos)) := by unfold drain; dsimp only; split <;> rfl
@[simp] theorem drain_responses (s : State) : (drain s).responses = s.responses := by unfold drain; dsimp only; split <;> rfl

/-! ## DetachCommon (R311) -/

@[simp] theorem detachCommon_params (s : State) : (detachCommon s).params = s.params := rfl
@[simp] theorem detachCommon_mode (s : State) : (detachCommon s).mode = s.mode := rfl
@[simp] theorem detachCommon_final (s : State) : (detachCommon s).final = s.final := rfl
@[simp] theorem detachCommon_storedRem (s : State) : (detachCommon s).storedRem = 0#16 := rfl
@[simp] theorem detachCommon_detached (s : State) : (detachCommon s).detached = true := rfl
@[simp] theorem detachCommon_err (s : State) : (detachCommon s).err = s.err := rfl
@[simp] theorem detachCommon_input (s : State) : (detachCommon s).input = alignToByte s.input := rfl
@[simp] theorem detachCommon_win (s : State) : (detachCommon s).win = s.win := rfl
@[simp] theorem detachCommon_winPos (s : State) : (detachCommon s).winPos = s.winPos := rfl
@[simp] theorem detachCommon_stage (s : State) : (detachCommon s).stage = s.stage := rfl
@[simp] theorem detachCommon_stageLen (s : State) : (detachCommon s).stageLen = 0 := rfl
@[simp] theorem detachCommon_stagePos (s : State) : (detachCommon s).stagePos = 0 := rfl
@[simp] theorem detachCommon_ll (s : State) : (detachCommon s).ll = none := rfl
@[simp] theorem detachCommon_dist (s : State) : (detachCommon s).dist = .absent := rfl
@[simp] theorem detachCommon_phase (s : State) : (detachCommon s).phase = s.phase := rfl
@[simp] theorem detachCommon_dyn (s : State) : (detachCommon s).dyn = s.dyn := rfl
@[simp] theorem detachCommon_len (s : State) : (detachCommon s).len = s.len := rfl
@[simp] theorem detachCommon_cmds (s : State) : (detachCommon s).cmds = s.cmds := rfl
@[simp] theorem detachCommon_rdCount (s : State) : (detachCommon s).rdCount = s.rdCount := rfl
@[simp] theorem detachCommon_rdResp (s : State) : (detachCommon s).rdResp = s.rdResp := rfl
@[simp] theorem detachCommon_responses (s : State) : (detachCommon s).responses = s.responses := rfl

/-! ## DetachPassthrough (R312) -/

@[simp] theorem detachPassthrough_params (s : State) : (detachPassthrough s).params = s.params := rfl
@[simp] theorem detachPassthrough_mode (s : State) : (detachPassthrough s).mode = .passthru := rfl
@[simp] theorem detachPassthrough_final (s : State) : (detachPassthrough s).final = s.final := rfl
@[simp] theorem detachPassthrough_storedRem (s : State) : (detachPassthrough s).storedRem = s.storedRem := rfl
@[simp] theorem detachPassthrough_detached (s : State) : (detachPassthrough s).detached = s.detached := rfl
@[simp] theorem detachPassthrough_err (s : State) : (detachPassthrough s).err = s.err := rfl
@[simp] theorem detachPassthrough_input (s : State) : (detachPassthrough s).input = s.input := rfl
@[simp] theorem detachPassthrough_win (s : State) : (detachPassthrough s).win = s.win := rfl
@[simp] theorem detachPassthrough_winPos (s : State) : (detachPassthrough s).winPos = s.winPos := rfl
@[simp] theorem detachPassthrough_stage (s : State) : (detachPassthrough s).stage = s.stage := rfl
@[simp] theorem detachPassthrough_stageLen (s : State) : (detachPassthrough s).stageLen = s.stageLen := rfl
@[simp] theorem detachPassthrough_stagePos (s : State) : (detachPassthrough s).stagePos = s.stagePos := rfl
@[simp] theorem detachPassthrough_ll (s : State) : (detachPassthrough s).ll = s.ll := rfl
@[simp] theorem detachPassthrough_dist (s : State) : (detachPassthrough s).dist = s.dist := rfl
@[simp] theorem detachPassthrough_phase (s : State) : (detachPassthrough s).phase = s.phase := rfl
@[simp] theorem detachPassthrough_dyn (s : State) : (detachPassthrough s).dyn = s.dyn := rfl
@[simp] theorem detachPassthrough_len (s : State) : (detachPassthrough s).len = s.len := rfl
@[simp] theorem detachPassthrough_cmds (s : State) : (detachPassthrough s).cmds = s.cmds := rfl
@[simp] theorem detachPassthrough_rdCount (s : State) : (detachPassthrough s).rdCount = s.rdCount := rfl
@[simp] theorem detachPassthrough_rdResp (s : State) : (detachPassthrough s).rdResp = s.rdResp := rfl
@[simp] theorem detachPassthrough_responses (s : State) : (detachPassthrough s).responses = s.responses := rfl

/-! ## DetachRewind (R313) -/

@[simp] theorem detachRewind_params (s : State) : (detachRewind s).params = s.params := rfl
@[simp] theorem detachRewind_mode (s : State) : (detachRewind s).mode = .released := rfl
@[simp] theorem detachRewind_final (s : State) : (detachRewind s).final = s.final := rfl
@[simp] theorem detachRewind_storedRem (s : State) : (detachRewind s).storedRem = s.storedRem := rfl
@[simp] theorem detachRewind_detached (s : State) : (detachRewind s).detached = s.detached := rfl
@[simp] theorem detachRewind_err (s : State) : (detachRewind s).err = s.err := rfl
@[simp] theorem detachRewind_input (s : State) : (detachRewind s).input = { s.input with src := srcUnread s.input.unconsumed s.input.src, acc := 0#64, accN := 0, inPos := 0, inFill := 0, recv := 0 } := rfl
@[simp] theorem detachRewind_win (s : State) : (detachRewind s).win = s.win := rfl
@[simp] theorem detachRewind_winPos (s : State) : (detachRewind s).winPos = s.winPos := rfl
@[simp] theorem detachRewind_stage (s : State) : (detachRewind s).stage = s.stage := rfl
@[simp] theorem detachRewind_stageLen (s : State) : (detachRewind s).stageLen = s.stageLen := rfl
@[simp] theorem detachRewind_stagePos (s : State) : (detachRewind s).stagePos = s.stagePos := rfl
@[simp] theorem detachRewind_ll (s : State) : (detachRewind s).ll = s.ll := rfl
@[simp] theorem detachRewind_dist (s : State) : (detachRewind s).dist = s.dist := rfl
@[simp] theorem detachRewind_phase (s : State) : (detachRewind s).phase = s.phase := rfl
@[simp] theorem detachRewind_dyn (s : State) : (detachRewind s).dyn = s.dyn := rfl
@[simp] theorem detachRewind_len (s : State) : (detachRewind s).len = s.len := rfl
@[simp] theorem detachRewind_cmds (s : State) : (detachRewind s).cmds = s.cmds := rfl
@[simp] theorem detachRewind_rdCount (s : State) : (detachRewind s).rdCount = s.rdCount := rfl
@[simp] theorem detachRewind_rdResp (s : State) : (detachRewind s).rdResp = s.rdResp := rfl
@[simp] theorem detachRewind_responses (s : State) : (detachRewind s).responses = s.responses := rfl

/-! ## AttachReset (R316) -/

@[simp] theorem attachReset_params (s : State) : (attachReset s).params = s.params := rfl
@[simp] theorem attachReset_mode (s : State) : (attachReset s).mode = .idle := rfl
@[simp] theorem attachReset_final (s : State) : (attachReset s).final = false := rfl
@[simp] theorem attachReset_storedRem (s : State) : (attachReset s).storedRem = 0#16 := rfl
@[simp] theorem attachReset_detached (s : State) : (attachReset s).detached = false := rfl
@[simp] theorem attachReset_err (s : State) : (attachReset s).err = s.err := rfl
@[simp] theorem attachReset_input (s : State) : (attachReset s).input = s.input := rfl
@[simp] theorem attachReset_win (s : State) : (attachReset s).win = [] := rfl
@[simp] theorem attachReset_winPos (s : State) : (attachReset s).winPos = 0#15 := rfl
@[simp] theorem attachReset_stage (s : State) : (attachReset s).stage = [] := rfl
@[simp] theorem attachReset_stageLen (s : State) : (attachReset s).stageLen = 0 := rfl
@[simp] theorem attachReset_stagePos (s : State) : (attachReset s).stagePos = 0 := rfl
@[simp] theorem attachReset_ll (s : State) : (attachReset s).ll = none := rfl
@[simp] theorem attachReset_dist (s : State) : (attachReset s).dist = .absent := rfl
@[simp] theorem attachReset_phase (s : State) : (attachReset s).phase = s.phase := rfl
@[simp] theorem attachReset_dyn (s : State) : (attachReset s).dyn = s.dyn := rfl
@[simp] theorem attachReset_len (s : State) : (attachReset s).len = s.len := rfl
@[simp] theorem attachReset_cmds (s : State) : (attachReset s).cmds = s.cmds := rfl
@[simp] theorem attachReset_rdCount (s : State) : (attachReset s).rdCount = s.rdCount := rfl
@[simp] theorem attachReset_rdResp (s : State) : (attachReset s).rdResp = s.rdResp := rfl
@[simp] theorem attachReset_responses (s : State) : (attachReset s).responses = s.responses := rfl

/-! ## CLOSE on an open CORE (R320) -/

@[simp] theorem closeCore_params (s : State) : (closeCore s).params = s.params := rfl
@[simp] theorem closeCore_mode (s : State) : (closeCore s).mode = .closed := rfl
@[simp] theorem closeCore_final (s : State) : (closeCore s).final = s.final := rfl
@[simp] theorem closeCore_storedRem (s : State) : (closeCore s).storedRem = s.storedRem := rfl
@[simp] theorem closeCore_detached (s : State) : (closeCore s).detached = s.detached := rfl
@[simp] theorem closeCore_err (s : State) : (closeCore s).err = s.err := rfl
@[simp] theorem closeCore_input (s : State) : (closeCore s).input = { s.input with inbuf := [], direct := [], src := { s.input.src with closed := s.input.src.closed || s.params.closeReleasesSource } } := rfl
@[simp] theorem closeCore_win (s : State) : (closeCore s).win = [] := rfl
@[simp] theorem closeCore_winPos (s : State) : (closeCore s).winPos = s.winPos := rfl
@[simp] theorem closeCore_stage (s : State) : (closeCore s).stage = [] := rfl
@[simp] theorem closeCore_stageLen (s : State) : (closeCore s).stageLen = s.stageLen := rfl
@[simp] theorem closeCore_stagePos (s : State) : (closeCore s).stagePos = s.stagePos := rfl
@[simp] theorem closeCore_ll (s : State) : (closeCore s).ll = none := rfl
@[simp] theorem closeCore_dist (s : State) : (closeCore s).dist = .absent := rfl
@[simp] theorem closeCore_phase (s : State) : (closeCore s).phase = s.phase := rfl
@[simp] theorem closeCore_dyn (s : State) : (closeCore s).dyn = DynWork.none := rfl
@[simp] theorem closeCore_len (s : State) : (closeCore s).len = 0 := rfl
@[simp] theorem closeCore_cmds (s : State) : (closeCore s).cmds = s.cmds := rfl
@[simp] theorem closeCore_rdCount (s : State) : (closeCore s).rdCount = s.rdCount := rfl
@[simp] theorem closeCore_rdResp (s : State) : (closeCore s).rdResp = s.rdResp := rfl
@[simp] theorem closeCore_responses (s : State) : (closeCore s).responses = s.responses := rfl

end Sys2Proof.Machine
end

