-- ==== Sys2Proof/Laws/Memory.lean ====
section
/-! SUPPORT. The laws of the window's memory: read after write, and that every operation keeps the canonical form. -/

namespace Sys2Proof.Machine

/-- A well-formed memory reads as unwritten below its first allowed address. -/
theorem Memory.read_below {m : Memory} {lo a : Nat} (hwf : m.wfFrom lo = true) (ha : a < lo) :
    m.read a = Config.tooFar := by
  cases m with
  | nil => rfl
  | cons c rest =>
    obtain ⟨x, b⟩ := c
    simp only [Memory.wfFrom, Bool.and_eq_true, decide_eq_true_eq] at hwf
    have h1 : x ≠ a := by omega
    have h2 : a < x := by omega
    simp [Memory.read, h1, h2]

/-- The canonical form from an address is one from every lower address. -/
theorem Memory.wfFrom_mono {m : Memory} {lo lo' : Nat} (hwf : m.wfFrom lo = true) (h : lo' ≤ lo) :
    m.wfFrom lo' = true := by
  cases m with
  | nil => rfl
  | cons c rest =>
    obtain ⟨x, b⟩ := c
    simp only [Memory.wfFrom, Bool.and_eq_true, decide_eq_true_eq] at hwf ⊢
    exact ⟨⟨⟨by omega, hwf.1.1.2⟩, hwf.1.2⟩, hwf.2⟩

/-- A write keeps the canonical form. -/
theorem Memory.wfFrom_write {m : Memory} {lo a : Nat} (v : Byte) (hwf : m.wfFrom lo = true) (hlo : lo ≤ a)
    (ha : a < Config.winSize) : (m.write a v).wfFrom lo = true := by
  induction m generalizing lo with
  | nil =>
    unfold Memory.write
    split
    · rfl
    · simp [Memory.wfFrom, *]
  | cons c rest ih =>
    obtain ⟨x, b⟩ := c
    have hwf' := hwf
    simp only [Memory.wfFrom, Bool.and_eq_true, decide_eq_true_eq] at hwf'
    obtain ⟨⟨⟨h1, h2⟩, h3⟩, h4⟩ := hwf'
    unfold Memory.write
    split
    · split
      · exact hwf
      · have : a + 1 ≤ x := by omega
        simp [Memory.wfFrom, *]
    · split
      · split
        · exact Memory.wfFrom_mono h4 (by omega)
        · subst a
          simp [Memory.wfFrom, *]
      · have : x + 1 ≤ a := by omega
        simp [Memory.wfFrom, h1, h2, h3, ih h4 this]

/-- A write within the window keeps the canonical form. -/
theorem Memory.wf_write {m : Memory} {a : Nat} (v : Byte) (hwf : m.wf = true) (ha : a < Config.winSize) :
    (m.write a v).wf = true :=
  Memory.wfFrom_write v hwf (Nat.zero_le a) ha

/-- The byte written is read back. -/
theorem Memory.read_write_same {m : Memory} {lo a : Nat} (v : Byte) (hwf : m.wfFrom lo = true) :
    (m.write a v).read a = v := by
  induction m generalizing lo with
  | nil =>
    unfold Memory.write
    split <;> simp [Memory.read, *]
  | cons c rest ih =>
    obtain ⟨x, b⟩ := c
    simp only [Memory.wfFrom, Bool.and_eq_true, decide_eq_true_eq] at hwf
    unfold Memory.write
    split
    · rename_i hax
      have hne : x ≠ a := by omega
      split <;> simp [Memory.read, *]
    · split
      · subst a
        split
        · rename_i hv
          rw [Memory.read_below hwf.2 (by omega), hv]
        · simp [Memory.read]
      · rename_i h1 h2
        have hne : x ≠ a := fun h => h2 h.symm
        simp [Memory.read, hne, h1, ih hwf.2]

/-- A write leaves every other address alone. -/
theorem Memory.read_write_other {m : Memory} {lo a a' : Nat} (v : Byte) (hwf : m.wfFrom lo = true) (hne : a' ≠ a) :
    (m.write a v).read a' = m.read a' := by
  induction m generalizing lo with
  | nil =>
    unfold Memory.write
    split
    · rfl
    · simp [Memory.read, hne.symm]
  | cons c rest ih =>
    obtain ⟨x, b⟩ := c
    simp only [Memory.wfFrom, Bool.and_eq_true, decide_eq_true_eq] at hwf
    unfold Memory.write
    split
    · rename_i hax
      split
      · rfl
      · by_cases hlt : a' < a
        · have h1 : x ≠ a' := by omega
          have h2 : a' < x := by omega
          simp [Memory.read, hne.symm, hlt, h1, h2]
        · rw [Memory.read, if_neg hne.symm, if_neg hlt]
    · split
      · subst a
        split
        · by_cases hlt : a' < x
          · rw [Memory.read_below hwf.2 (by omega)]
            simp [Memory.read, hne.symm, hlt]
          · simp [Memory.read, hne.symm, hlt]
        · simp [Memory.read, hne.symm]
      · simp only [Memory.read, ih hwf.2]

/-- The reset window is in canonical form. -/
theorem Memory.wf_nil : Memory.wf [] = true := rfl

/-- WinPut keeps the window's canonical form. -/
theorem winPut_wf (b : Byte) {s : State} (hwf : s.win.wf = true) : (winPut b s).win.wf = true :=
  Memory.wf_write b hwf s.winPos.isLt

/-- Emit keeps the window's canonical form. -/
theorem emit_wf (b : Byte) {s : State} (hwf : s.win.wf = true) : (emit b s).win.wf = true := by
  rw [emit_win]
  exact Memory.wf_write b hwf s.winPos.isLt

/-- Copy keeps the window's canonical form. -/
theorem copy_wf (dist len : Nat) {s : State} (hwf : s.win.wf = true) : (copy dist len s).win.wf = true := by
  induction len generalizing s with
  | zero => exact hwf
  | succ n ih => exact ih (emit_wf _ hwf)

/-- The release of the buffers leaves a window in canonical form. -/
theorem releaseBuffers_wf (s : State) : (releaseBuffers s).win.wf = true := rfl

/-- ATTACH's reset leaves a window in canonical form. -/
theorem attachReset_wf (s : State) : (attachReset s).win.wf = true := rfl

end Sys2Proof.Machine
end

