-- ==== Sys2Proof/Laws/Ops.lean ====
section
/-! SUPPORT. What the shared operations on the state can do, once each. -/

namespace Sys2Proof.Machine

/-- A byte is delivered to the response while it has room, else to STAGE (R80). -/
theorem deliver_cases (b : Byte) (s : State) :
    (0 < s.room ∧ deliver b s = { s with rdResp := s.rdResp ++ [b] }) ∨
      (s.room = 0 ∧ deliver b s = { s with stage := s.stage.take s.stageLen ++ [b], stageLen := s.stageLen + 1 }) := by
  unfold deliver
  split
  · exact .inl ⟨‹_›, rfl⟩
  · exact .inr ⟨by omega, rfl⟩

/-! ## Copy changes the window, its cursor and the delivered bytes only -/

@[simp] theorem copy_params (dist len : Nat) (s : State) : (copy dist len s).params = s.params := by
  induction len generalizing s with
  | zero => rfl
  | succ n ih => simp [copy, ih]
@[simp] theorem copy_mode (dist len : Nat) (s : State) : (copy dist len s).mode = s.mode := by
  induction len generalizing s with
  | zero => rfl
  | succ n ih => simp [copy, ih]
@[simp] theorem copy_final (dist len : Nat) (s : State) : (copy dist len s).final = s.final := by
  induction len generalizing s with
  | zero => rfl
  | succ n ih => simp [copy, ih]
@[simp] theorem copy_storedRem (dist len : Nat) (s : State) : (copy dist len s).storedRem = s.storedRem := by
  induction len generalizing s with
  | zero => rfl
  | succ n ih => simp [copy, ih]
@[simp] theorem copy_detached (dist len : Nat) (s : State) : (copy dist len s).detached = s.detached := by
  induction len generalizing s with
  | zero => rfl
  | succ n ih => simp [copy, ih]
@[simp] theorem copy_err (dist len : Nat) (s : State) : (copy dist len s).err = s.err := by
  induction len generalizing s with
  | zero => rfl
  | succ n ih => simp [copy, ih]
@[simp] theorem copy_input (dist len : Nat) (s : State) : (copy dist len s).input = s.input := by
  induction len generalizing s with
  | zero => rfl
  | succ n ih => simp [copy, ih]
@[simp] theorem copy_ll (dist len : Nat) (s : State) : (copy dist len s).ll = s.ll := by
  induction len generalizing s with
  | zero => rfl
  | succ n ih => simp [copy, ih]
@[simp] theorem copy_dist (dist len : Nat) (s : State) : (copy dist len s).dist = s.dist := by
  induction len generalizing s with
  | zero => rfl
  | succ n ih => simp [copy, ih]
@[simp] theorem copy_phase (dist len : Nat) (s : State) : (copy dist len s).phase = s.phase := by
  induction len generalizing s with
  | zero => rfl
  | succ n ih => simp [copy, ih]
@[simp] theorem copy_dyn (dist len : Nat) (s : State) : (copy dist len s).dyn = s.dyn := by
  induction len generalizing s with
  | zero => rfl
  | succ n ih => simp [copy, ih]
@[simp] theorem copy_len (dist len : Nat) (s : State) : (copy dist len s).len = s.len := by
  induction len generalizing s with
  | zero => rfl
  | succ n ih => simp [copy, ih]
@[simp] theorem copy_cmds (dist len : Nat) (s : State) : (copy dist len s).cmds = s.cmds := by
  induction len generalizing s with
  | zero => rfl
  | succ n ih => simp [copy, ih]
@[simp] theorem copy_rdCount (dist len : Nat) (s : State) : (copy dist len s).rdCount = s.rdCount := by
  induction len generalizing s with
  | zero => rfl
  | succ n ih => simp [copy, ih]
@[simp] theorem copy_responses (dist len : Nat) (s : State) : (copy dist len s).responses = s.responses := by
  induction len generalizing s with
  | zero => rfl
  | succ n ih => simp [copy, ih]
@[simp] theorem copy_stagePos (dist len : Nat) (s : State) : (copy dist len s).stagePos = s.stagePos := by
  induction len generalizing s with
  | zero => rfl
  | succ n ih => simp [copy, ih]

/-- Copying one byte more is emitting the byte it reads first, then copying the rest (R271). -/
theorem copy_succ (dist len : Nat) (s : State) :
    copy dist (len + 1) s = copy dist len (emit (s.win.read (copySource dist s).toNat) s) := rfl

/-- What an element's meaning makes of a read (R345, R359). -/
theorem onInput_next {α : Type} {s t : State} {r : InRes α} {k : α → State → Result} (h : onInput s r k = .next t) :
    (∃ a inp, r = .ok a inp ∧ k a { s with input := inp } = .next t) ∨
      (∃ c i inp, r = .fatal c i inp ∧ t = fatal c i { s with input := inp }) ∨
      (∃ inp, r = .wait inp ∧ t = { s with input := inp, phase := .waiting }) := by
  cases r with
  | ok a inp => exact .inl ⟨a, inp, rfl, h⟩
  | fatal c i inp => exact .inr (.inl ⟨c, i, inp, rfl, (Host.Outcome.next.inj h).symm⟩)
  | wait inp => exact .inr (.inr ⟨inp, rfl, (Host.Outcome.next.inj h).symm⟩)
  | stop f => simp [onInput] at h

/-- READ's loop test answers the READ at a step boundary where its response is full or the stream has ended, and does nothing
else (R300). -/
theorem settle_cases (s : State) :
    (s.phase = .step ∧ (s.room = 0 ∨ s.atEos = true) ∧ settle s = answerRead s) ∨
      (¬(s.phase = .step ∧ (s.room = 0 ∨ s.atEos = true)) ∧ settle s = s) := by
  unfold settle
  by_cases h : s.phase = .step
  · by_cases h' : s.room = 0 ∨ s.atEos = true
    · exact .inl ⟨h, h', by simp [h, h']⟩
    · exact .inr ⟨fun hh => h' hh.2, by simp [h, h']⟩
  · exact .inr ⟨fun hh => h hh.1, by simp [h]⟩

/-- A repeat of code lengths overflows, or extends the sequence (R227). -/
theorem repeatLength_cases (r value : Nat) (s : State) :
    (s.dyn.hlit + s.dyn.hdist < s.dyn.lens.length + r ∧ repeatLength r value s = fatal .clenOverflow .empty s) ∨
      (s.dyn.lens.length + r ≤ s.dyn.hlit + s.dyn.hdist ∧
        repeatLength r value s = extendLengths (List.replicate r value) s) := by
  unfold repeatLength
  split
  · exact .inl ⟨‹_›, rfl⟩
  · exact .inr ⟨by omega, rfl⟩

/-- More code lengths leave the sequence unfinished, or complete it (R223, R227). -/
theorem extendLengths_cases (more : List Nat) (s : State) :
    ((s.dyn.lens ++ more).length < s.dyn.hlit + s.dyn.hdist ∧
        extendLengths more s = { s with dyn := { s.dyn with lens := s.dyn.lens ++ more } }) ∨
      (s.dyn.hlit + s.dyn.hdist ≤ (s.dyn.lens ++ more).length ∧
        extendLengths more s = adoptCodes (s.dyn.lens ++ more) s) := by
  unfold extendLengths
  dsimp only
  split
  · exact .inl ⟨‹_›, rfl⟩
  · exact .inr ⟨by omega, rfl⟩

/-- A complete sequence's codes are adopted together, or the first build error is raised (R228, R229). -/
theorem adoptCodes_cases (lens : List Nat) (s : State) :
    (∃ c, buildTree (splitLitlen s.dyn.hlit lens) .litlen = .error c ∧ adoptCodes lens s = fatal c (.kind .litlen) s) ∨
      (∃ tll c, buildTree (splitLitlen s.dyn.hlit lens) .litlen = .ok tll ∧
        buildTree (splitDist s.dyn.hlit s.dyn.hdist lens) .dist = .error c ∧
        adoptCodes lens s = fatal c (.kind .dist) s) ∨
      (∃ tll td, buildTree (splitLitlen s.dyn.hlit lens) .litlen = .ok tll ∧
        buildTree (splitDist s.dyn.hlit s.dyn.hdist lens) .dist = .ok td ∧
        adoptCodes lens s =
          { s with ll := some (mkCode s.params.tableBits (tll.getD [])),
                   dist := match td with
                     | none => .noCode
                     | some t => .code (mkCode s.params.tableBits t),
                   mode := .huff, phase := .step, dyn := DynWork.none }) := by
  unfold adoptCodes
  cases h1 : buildTree (splitLitlen s.dyn.hlit lens) .litlen with
  | error c => exact .inl ⟨c, rfl, rfl⟩
  | ok tll =>
    cases h2 : buildTree (splitDist s.dyn.hlit s.dyn.hdist lens) .dist with
    | error c => exact .inr (.inl ⟨tll, c, rfl, rfl, rfl⟩)
    | ok td => exact .inr (.inr ⟨tll, td, rfl, rfl, rfl⟩)

/-- A passthrough READ (R322): ZERO for count 0, buffered bytes alone while there are any, else the source's answer. -/
theorem passRead_cases (count : Nat) (s : State) :
    (count = 0 ∧ passRead count s = .next (respond .zero s)) ∨
      (count ≠ 0 ∧ (drainBuffered count s.input).1 ≠ [] ∧
        passRead count s = .next (respond (.data (drainBuffered count s.input).1)
          { s with input := (drainBuffered count s.input).2 })) ∨
      (count ≠ 0 ∧ (drainBuffered count s.input).1 = [] ∧ ∃ a inp, s.input.request count = (a, inp) ∧
        passRead count s =
          match a with
          | .data bs => .next (respond (.data bs) { s with input := inp })
          | .endOfData => .next (respond .eos { s with input := inp })
          | .ioError p => .next (fatal .io (.payload p) { s with input := inp })
          | .silent => .next { s with input := inp, phase := .waiting }) := by
  by_cases h0 : count = 0
  · exact .inl ⟨h0, by simp [passRead, h0]⟩
  · by_cases h1 : (drainBuffered count s.input).1 = []
    · refine .inr (.inr ⟨h0, h1, (s.input.request count).1, (s.input.request count).2, rfl, ?_⟩)
      simp only [passRead, h0, h1, if_false, ne_eq, not_true_eq_false]
      rcases s.input.request count with ⟨a, inp⟩
      cases a <;> rfl
    · exact .inr (.inl ⟨h0, h1, by simp [passRead, h0, h1]⟩)

/-- A step reads a value of the expected format and runs it, or raises the read's fatal error, or waits (R303). -/
theorem runElement_next {s t : State} (h : runElement s = .next t) :
    ∃ f, expectedFormat s = some f ∧
      ((∃ v inp, fetchValue f s = .ok v inp ∧ runValue f v { s with input := inp } = .next t) ∨
        (∃ c i inp, fetchValue f s = .fatal c i inp ∧ t = fatal c i { s with input := inp }) ∨
        (∃ inp, fetchValue f s = .wait inp ∧ t = { s with input := inp, phase := .waiting })) := by
  unfold runElement at h
  cases hf : expectedFormat s with
  | none => simp [hf] at h
  | some f => exact ⟨f, rfl, onInput_next (by simpa [hf] using h)⟩

/-- Running a value is executing the instruction it decodes to, with READ's loop test after it. -/
theorem runValue_next {f : Format} {v : Nat} {s t : State} (h : runValue f v s = .next t) :
    ∃ i u, decode f v = .ok i ∧ exec i s = .next u ∧ t = settle u := by
  unfold runValue at h
  cases hd : decode f v with
  | error e => simp [hd] at h
  | ok i =>
    rw [hd] at h
    dsimp only at h
    cases he : exec i s with
    | next u =>
      rw [he] at h
      exact ⟨i, u, rfl, he, (Host.Outcome.next.inj h).symm⟩
    | fault q => rw [he] at h; simp [afterElement] at h
    | refused q => rw [he] at h; simp [afterElement] at h

end Sys2Proof.Machine
end

