-- ==== Sys2Proof/Laws/PerInstr.lean ====
section
/-! SUPPORT. The statements made of every instruction as syntax, one lemma per constructor. -/

namespace Sys2Proof.Laws.EncodeInFormat

/-- The encoded value of a well-formed instruction fits its format (R101, R103, R105, R124, R130). DUMMY is excepted: it is no
symbol number and has no value in the table (R342). -/
def Statement (i : Instr) : Prop :=
  i.wellFormed = true → i ≠ .distReserved dummySym → (encode i).2 < 2 ^ (encode i).1.width

theorem blockStored (f : Bool) : Statement (.blockStored f) := by intro _ _; cases f <;> decide
theorem blockFixed (f : Bool) : Statement (.blockFixed f) := by intro _ _; cases f <;> decide
theorem blockDynamic (f : Bool) : Statement (.blockDynamic f) := by intro _ _; cases f <;> decide
theorem blockReserved (f : Bool) : Statement (.blockReserved f) := by intro _ _; cases f <;> decide
theorem storedHeader (l n : Count16) : Statement (.storedHeader l n) := by
  rintro - -
  have hl := l.isLt
  have hn := n.isLt
  change 0 + (l.toNat + 65536 * n.toNat) < 4294967296
  omega
theorem storedByte (b : Byte) : Statement (.storedByte b) := by
  rintro - -
  have hb := b.isLt
  change 0 + b.toNat < 256
  omega
theorem dynamicHeader (hl hd : BitVec 5) (hc : BitVec 4) : Statement (.dynamicHeader hl hd hc) := by
  rintro - -
  have hhl := hl.isLt
  have hhd := hd.isLt
  have hhc := hc.isLt
  change 0 + (hl.toNat + 32 * hd.toNat + 1024 * hc.toNat) < 16384
  omega
theorem clLen (l : BitVec 4) : Statement (.clLen l) := by
  rintro - -
  have hl := l.isLt
  change 0 + l.toNat < 32
  omega
theorem clRepeatPrev : Statement .clRepeatPrev := by intro _ _; decide
theorem clZeroShort : Statement .clZeroShort := by intro _ _; decide
theorem clZeroLong : Statement .clZeroLong := by intro _ _; decide
theorem lit (b : Byte) : Statement (.lit b) := by
  rintro - -
  have hb := b.isLt
  change 0 + b.toNat < 512
  omega
theorem eob : Statement .eob := by intro _ _; decide
theorem len257 : Statement .len257 := by intro _ _; decide
theorem len258 : Statement .len258 := by intro _ _; decide
theorem len259 : Statement .len259 := by intro _ _; decide
theorem len260 : Statement .len260 := by intro _ _; decide
theorem len261 : Statement .len261 := by intro _ _; decide
theorem len262 : Statement .len262 := by intro _ _; decide
theorem len263 : Statement .len263 := by intro _ _; decide
theorem len264 : Statement .len264 := by intro _ _; decide
theorem len265 : Statement .len265 := by intro _ _; decide
theorem len266 : Statement .len266 := by intro _ _; decide
theorem len267 : Statement .len267 := by intro _ _; decide
theorem len268 : Statement .len268 := by intro _ _; decide
theorem len269 : Statement .len269 := by intro _ _; decide
theorem len270 : Statement .len270 := by intro _ _; decide
theorem len271 : Statement .len271 := by intro _ _; decide
theorem len272 : Statement .len272 := by intro _ _; decide
theorem len273 : Statement .len273 := by intro _ _; decide
theorem len274 : Statement .len274 := by intro _ _; decide
theorem len275 : Statement .len275 := by intro _ _; decide
theorem len276 : Statement .len276 := by intro _ _; decide
theorem len277 : Statement .len277 := by intro _ _; decide
theorem len278 : Statement .len278 := by intro _ _; decide
theorem len279 : Statement .len279 := by intro _ _; decide
theorem len280 : Statement .len280 := by intro _ _; decide
theorem len281 : Statement .len281 := by intro _ _; decide
theorem len282 : Statement .len282 := by intro _ _; decide
theorem len283 : Statement .len283 := by intro _ _; decide
theorem len284 : Statement .len284 := by intro _ _; decide
theorem len285 : Statement .len285 := by intro _ _; decide
theorem lenReserved (sym : Nat) : Statement (.lenReserved sym) := by
  intro h _
  simp [Instr.wellFormed] at h
  rcases h with h | h <;> subst h <;> decide
theorem dist0 : Statement .dist0 := by intro _ _; decide
theorem dist1 : Statement .dist1 := by intro _ _; decide
theorem dist2 : Statement .dist2 := by intro _ _; decide
theorem dist3 : Statement .dist3 := by intro _ _; decide
theorem dist4 : Statement .dist4 := by intro _ _; decide
theorem dist5 : Statement .dist5 := by intro _ _; decide
theorem dist6 : Statement .dist6 := by intro _ _; decide
theorem dist7 : Statement .dist7 := by intro _ _; decide
theorem dist8 : Statement .dist8 := by intro _ _; decide
theorem dist9 : Statement .dist9 := by intro _ _; decide
theorem dist10 : Statement .dist10 := by intro _ _; decide
theorem dist11 : Statement .dist11 := by intro _ _; decide
theorem dist12 : Statement .dist12 := by intro _ _; decide
theorem dist13 : Statement .dist13 := by intro _ _; decide
theorem dist14 : Statement .dist14 := by intro _ _; decide
theorem dist15 : Statement .dist15 := by intro _ _; decide
theorem dist16 : Statement .dist16 := by intro _ _; decide
theorem dist17 : Statement .dist17 := by intro _ _; decide
theorem dist18 : Statement .dist18 := by intro _ _; decide
theorem dist19 : Statement .dist19 := by intro _ _; decide
theorem dist20 : Statement .dist20 := by intro _ _; decide
theorem dist21 : Statement .dist21 := by intro _ _; decide
theorem dist22 : Statement .dist22 := by intro _ _; decide
theorem dist23 : Statement .dist23 := by intro _ _; decide
theorem dist24 : Statement .dist24 := by intro _ _; decide
theorem dist25 : Statement .dist25 := by intro _ _; decide
theorem dist26 : Statement .dist26 := by intro _ _; decide
theorem dist27 : Statement .dist27 := by intro _ _; decide
theorem dist28 : Statement .dist28 := by intro _ _; decide
theorem dist29 : Statement .dist29 := by intro _ _; decide
theorem distReserved (sym : Nat) : Statement (.distReserved sym) := by
  intro h hd
  simp [Instr.wellFormed] at h
  rcases h with (h | h) | h
  · subst h; decide
  · subst h; decide
  · subst h; exact absurd rfl hd
theorem cmdRead (count : Nat) : Statement (.cmdRead count) := by
  intro h _
  have hc : count ≤ 2147483647 := of_decide_eq_true h
  change 0 + 4 * count < 8589934592
  omega
theorem cmdDetach : Statement .cmdDetach := by intro _ _; decide
theorem cmdAttach : Statement .cmdAttach := by intro _ _; decide
theorem cmdClose : Statement .cmdClose := by intro _ _; decide

end Sys2Proof.Laws.EncodeInFormat
end

