-- ==== Sys2Proof/Tests/Slice0.lean ====
section
/-! SUPPORT. Tests of one operation or one step each, their expected results taken from the spec's encodings and from
95_test_vectors.md, and the witnesses of the statements' hypotheses. -/

set_option Elab.async false

namespace Sys2Proof.Tests

open Sys2Proof Sys2Proof.Machine

/-! ## Well-formedness: one ill-formed element for each check -/

theorem test_len_reserved_below_286 : (Instr.lenReserved 285).wellFormed = false := by decide
theorem test_len_reserved_above_287 : (Instr.lenReserved 288).wellFormed = false := by decide
theorem test_dist_reserved_below_30 : (Instr.distReserved 29).wellFormed = false := by decide
theorem test_dist_reserved_above_dummy : (Instr.distReserved 33).wellFormed = false := by decide
theorem test_read_count_above_read_max : (Instr.cmdRead 2147483648).wellFormed = false := by decide

/-! ## Decoding: the value of every constructor, written out from 30_encoding.md -/

/-- R101: BTYPE above BFINAL. -/
theorem test_decode_block_headers :
    decode .blockHeader 0b001 = .ok (.blockStored true) ∧ decode .blockHeader 0b010 = .ok (.blockFixed false) ∧
      decode .blockHeader 0b101 = .ok (.blockDynamic true) ∧ decode .blockHeader 0b110 = .ok (.blockReserved false) := by
  decide

/-- R103, R217: program P1's stored block, LEN = 3 and the byte 41. -/
theorem test_decode_stored :
    decode .storedHeader 0b11111111111111000000000000000011 = .ok (.storedHeader 3#16 0xFFFC#16) ∧
      decode .storedByte 0b01000001 = .ok (.storedByte 0x41#8) := by decide

/-- R105, R220: program P4's counts, HLIT 2, HDIST 0, HCLEN 14; and every field at its highest. -/
theorem test_decode_dynamic_header :
    decode .dynamicHeader 0b11100000000010 = .ok (.dynamicHeader 2#5 0#5 14#4) ∧
      decode .dynamicHeader 0b11111111111111 = .ok (.dynamicHeader 31#5 31#5 15#4) ∧
      decode .dynamicHeader 0b00000000100000 = .ok (.dynamicHeader 0#5 1#5 0#4) := by decide

/-- R107. -/
theorem test_decode_clen :
    decode .clenSymbol 0b01111 = .ok (.clLen 15#4) ∧ decode .clenSymbol 0b10000 = .ok .clRepeatPrev ∧
      decode .clenSymbol 0b10001 = .ok .clZeroShort ∧ decode .clenSymbol 0b10010 = .ok .clZeroLong ∧
      decode .clenSymbol 0b10011 = .error .symbolOutOfAlphabet := by decide

/-- R108: literals, the end of block and the reserved symbols. -/
theorem test_decode_litlen :
    decode .litlenSymbol 0b011111111 = .ok (.lit 0xFF#8) ∧ decode .litlenSymbol 0b100000000 = .ok .eob ∧
      decode .litlenSymbol 0b100011110 = .ok (.lenReserved 286) ∧
      decode .litlenSymbol 0b100011111 = .ok (.lenReserved 287) ∧
      decode .litlenSymbol 0b100100000 = .error .symbolOutOfAlphabet := by decide

/-- R112: the length symbols 257..285 in order. -/
theorem test_decode_lengths :
    (List.range' 257 29).map (decode .litlenSymbol) =
      [.ok .len257, .ok .len258, .ok .len259, .ok .len260, .ok .len261, .ok .len262, .ok .len263, .ok .len264,
       .ok .len265, .ok .len266, .ok .len267, .ok .len268, .ok .len269, .ok .len270, .ok .len271, .ok .len272,
       .ok .len273, .ok .len274, .ok .len275, .ok .len276, .ok .len277, .ok .len278, .ok .len279, .ok .len280,
       .ok .len281, .ok .len282, .ok .len283, .ok .len284, .ok .len285] := by decide

/-- R113: the distance symbols 0..29 in order. -/
theorem test_decode_distances :
    (List.range 30).map (decode .distSymbol) =
      [.ok .dist0, .ok .dist1, .ok .dist2, .ok .dist3, .ok .dist4, .ok .dist5, .ok .dist6, .ok .dist7, .ok .dist8,
       .ok .dist9, .ok .dist10, .ok .dist11, .ok .dist12, .ok .dist13, .ok .dist14, .ok .dist15, .ok .dist16,
       .ok .dist17, .ok .dist18, .ok .dist19, .ok .dist20, .ok .dist21, .ok .dist22, .ok .dist23, .ok .dist24,
       .ok .dist25, .ok .dist26, .ok .dist27, .ok .dist28, .ok .dist29] := by decide

/-- R109, R258. -/
theorem test_decode_dist_reserved :
    decode .distSymbol 0b11110 = .ok (.distReserved 30) ∧ decode .distSymbol 0b11111 = .ok (.distReserved 31) := by
  decide

/-- R130, in the model's layout (log entry 3): READ 100, READ at READ_MAX, and the other commands. -/
theorem test_decode_commands :
    decode .command 0b110010000 = .ok (.cmdRead 100) ∧ decode .command 0x1FFFFFFFC = .ok (.cmdRead 2147483647) ∧
      decode .command 0b01 = .ok .cmdDetach ∧ decode .command 0b10 = .ok .cmdAttach ∧
      decode .command 0b11 = .ok .cmdClose ∧ decode .command 0x200000000 = .error .valueTooWide := by decide

/-- The words of the table, where the width names the format. -/
theorem test_decode_table_words :
    decodeTableWord 3 0b110 = some (.blockReserved false) ∧ decodeTableWord 32 0xFFFC0003 = some (.storedHeader 3#16 0xFFFC#16) ∧
      decodeTableWord 16 0b100000001 = some .len257 ∧ decodeTableWord 8 29 = some .dist29 ∧
      decodeTableWord 2 3 = some .cmdClose := by decide

/-! ## Bit input: vectors B1 to B4 -/

/-- A source holding the given bytes and then its end. -/
def sampleSource (bytes : List Byte) : Source := ⟨bytes, 0, [], .endOfData, [], false⟩

/-- The input layer at reset, bound to that source. -/
def sampleInput (bytes : List Byte) : Input := Input.reset (sampleSource bytes)

/-- What a read gave, and ACC_N and ACC after it. -/
def readResult (r : InRes Nat) : Option (Nat × Nat × Nat) :=
  match r with
  | .ok v inp => some (v, inp.accN, inp.acc.toNat)
  | _ => none

/-- The bytes of vectors B1 to B3. -/
def vectorB : Input := sampleInput [0xB4#8, 0x01#8, 0xFF#8]

/-- B2: 16 bits across three bytes. -/
theorem test_vector_B2 : readResult ((readBits 4096 3 vectorB).andThen fun _ inp => readBits 4096 16 inp) =
    some (0xE036, 5, 0x1F) := by decide +kernel

/-- B1: the fourth read, after 1 + 2 + 5 bits. -/
theorem test_vector_B1 : readResult ((readBits 4096 8 vectorB).andThen fun _ inp => readBits 4096 8 inp) =
    some (1, 0, 0) := by decide +kernel

/-- B3: alignment drops 5 bits. -/
theorem test_vector_B3 : readResult ((readBits 4096 3 vectorB).andThen fun _ inp => readBits 4096 8 (alignToByte inp)) =
    some (1, 0, 0) := by decide +kernel

/-- B4. -/
theorem test_vector_B4 : readResult (readBits 4096 0 vectorB) = some (0, 0, 0) := by decide +kernel

/-- S5: the source ends before the first header. -/
theorem test_vector_S5 : (match readBlockHeader 4096 (sampleInput []) with
    | .fatal c i _ => some (c, i)
    | _ => none) = some (.unexpectedEos, .empty) := by decide +kernel

/-! ## Code construction: vectors H1 to H10 -/

/-- What a build gave, for comparison. -/
def buildResult (lens : List Nat) (kind : CodeKind) : Option Tree × Option Cause :=
  match buildTree lens kind with
  | .ok t => (t, none)
  | .error c => (none, some c)

theorem test_vector_H1 : buildResult [2, 1, 3, 3] .litlen =
    (some [.leaf 1, .node 1, .leaf 0, .node 2, .leaf 2, .leaf 3], none) := by decide +kernel

/-- H2: RFC 1951's own example; the code words of symbols 5, 4 and 7. -/
theorem test_vector_H2 : codeWord [3, 3, 3, 3, 3, 2, 4, 4] 5 = some [false, false] ∧
    codeWord [3, 3, 3, 3, 3, 2, 4, 4] 4 = some [true, true, false] ∧
    codeWord [3, 3, 3, 3, 3, 2, 4, 4] 7 = some [true, true, true, true] := by decide

theorem test_vector_H3 : buildResult [0, 0, 1] .dist = (some [.leaf 2, .dummy], none) := by decide +kernel
theorem test_vector_H4 : buildResult [1, 1, 1] .litlen = (none, some .huffOversub) := by decide +kernel
theorem test_vector_H5 : buildResult [1] .litlen = (none, some .huffIncomplete) := by decide +kernel
theorem test_vector_H6 : buildResult [2, 2, 2] .litlen = (none, some .huffIncomplete) := by decide +kernel
theorem test_vector_H7 : buildResult [0, 0, 0] .dist = (none, none) ∧
    buildResult [0, 0, 0] .litlen = (none, some .huffIncomplete) := by decide +kernel
theorem test_vector_H8 : buildResult [1, 1] .clen = (some [.leaf 0, .leaf 1], none) := by decide +kernel
theorem test_vector_H9 : buildResult [1, 2] .dist = (none, some .huffIncomplete) := by decide +kernel

/-- H10: 'a', 256, 285 in the fixed literal/length code, 29 in the fixed distance code. -/
theorem test_vector_H10 :
    fixedLitlenTree.follow 0 [true, false, false, true, false, false, false, true] = some (.leaf 97) ∧
      fixedLitlenTree.follow 0 [false, false, false, false, false, false, false] = some (.leaf 256) ∧
      fixedLitlenTree.follow 0 [true, true, false, false, false, true, false, true] = some (.leaf 285) ∧
      fixedDistTree.follow 0 [true, true, true, false, true] = some (.leaf 29) := by decide +kernel

/-- R189: with TABLE_BITS 2, the tree of H1: the pattern whose first bit is 0 uses one bit, the others reach node 1's
children. -/
theorem test_build_table : buildTable 2 [.leaf 1, .node 1, .leaf 0, .node 2, .leaf 2, .leaf 3] =
    [⟨1, .leaf 1⟩, ⟨2, .leaf 0⟩, ⟨1, .leaf 1⟩, ⟨2, .node 2⟩] := by decide

/-! ## One step of each family -/

/-- A CORE bound to the given bytes, with a READ of 10 bytes in progress in the given mode and phase. -/
def inRead (bytes : List Byte) (m : Mode) (p : Phase) : State :=
  { State.construct ⟨4096, 2, false, false⟩ (sampleSource bytes) [] with mode := m, phase := p, rdCount := 10 }

/-- A Huffman block with the codes of program P4: 97 = 0, 256 = 10, 258 = 11; distance 0 = 0, DUMMY = 1. -/
def inP4 (bytes : List Byte) (p : Phase) : State :=
  { inRead bytes .huff p with ll := some (mkCode 2 [.leaf 97, .node 1, .leaf 256, .leaf 258]),
                              dist := .code (mkCode 2 [.leaf 0, .dummy]) }

/-- What a step gave, as a value to compare. -/
def view {α : Type} (r : Result) (f : State → α) : Option α :=
  match r with
  | .next t => some (f t)
  | _ => none

/-- X2: the header 06 is reserved; FINAL stays 0 and the READ is answered FAULT(1). -/
theorem test_vector_X2 : view (step (inRead [0x06#8] .idle .step)) (fun t => (t.mode, t.final, t.responses)) =
    some (.error, false, [.fault .reservedBtype .empty]) := by decide +kernel

/-- X1: FINAL is set before the type check. -/
theorem test_vector_X1 : view (step (inRead [0x07#8] .idle .step)) (fun t => (t.final, t.err.code.number)) =
    some (true, 1#8) := by decide +kernel

/-- P1: the first step reads BFINAL = 1, BTYPE = 0 and aligns; the second reads LEN = 3. -/
theorem test_P1_header : view (step (inRead [0x01#8, 0x03#8] .idle .step))
    (fun t => (t.final, t.input.accN, t.phase)) = some (true, 0, .storedHeader) := by decide +kernel

theorem test_P1_length : view (step (inRead [0x03#8, 0x00#8, 0xFC#8, 0xFF#8] .idle .storedHeader))
    (fun t => (t.mode, t.storedRem, t.phase)) = some (.stored, 3#16, .step) := by decide +kernel

/-- S4: NLEN = 0xFEFC. -/
theorem test_vector_S4 : view (step (inRead [0x03#8, 0x00#8, 0xFC#8, 0xFE#8] .idle .storedHeader)) (fun t => t.err) =
    some ⟨.storedLen, .lengths 0x0003#16 0xFEFC#16⟩ := by decide +kernel

/-- S8: LEN = 0xFFFF with NLEN = 0. -/
theorem test_vector_S8 : view (exec (.storedHeader 0xFFFF#16 0#16) State.reset) (fun t => t.storedRem) =
    some 0xFFFF#16 := by decide +kernel

/-- A stored byte at the end of its block: a direct request for min(STORED_REM, room) bytes, and the block ends. -/
theorem test_stored_byte : view (step { inRead [0x43#8, 0xAA#8] .stored .step with storedRem := 1#16 })
    (fun t => (t.mode, t.rdResp, t.input.src.txns, t.input.src.pos)) =
    some (.idle, [0x43#8], [.request 1], 1) := by decide +kernel

/-- P4's counts: HLIT 2, HDIST 0, HCLEN 14, and its CL lengths give the CL code 18 = 0, 1 = 10, 0 = 110, 2 = 111. The bytes are
P4's from its 4th bit on. -/
theorem test_P4_dynamic_header :
    view (step (inRead [0x02#8, 0x38#8, 0x90#8, 0x01#8, 0x00#8, 0x00#8, 0x00#8, 0x18#8, 0x04#8] .idle .dynamicHeader))
      (fun t => (t.dyn.hlit, t.dyn.hdist, t.dyn.clt, t.phase)) =
    some (259, 1, [.leaf 18, .node 1, .leaf 1, .node 2, .leaf 0, .leaf 2], .clenSymbol) := by decide +kernel

/-- A sequence in progress with the given lengths, of 257 + 1. -/
def inSequence (bytes : List Byte) (lens : List Nat) : State :=
  { inRead bytes .idle .clenSymbol with dyn := ⟨257, 1, [.leaf 16, .leaf 18], lens⟩ }

/-- R224's example: 8, then symbol 16 with extra 3: six more. The code word of 16 is 0, so the bits are 0 11. -/
theorem test_repeat_previous : view (step (inSequence [0b110#8] [8])) (fun t => t.dyn.lens) =
    some [8, 8, 8, 8, 8, 8, 8] := by decide +kernel

/-- Y6: symbol 16 first. -/
theorem test_vector_Y6 : view (step (inSequence [0#8] [])) (fun t => t.err) = some ⟨.clenNoPrev, .empty⟩ := by
  decide +kernel

/-- Y7: symbol 18 with extra 127 over 138 lengths of 258. The code word of 18 is 1. -/
theorem test_vector_Y7 : view (step (inSequence [0xFF#8] (List.replicate 138 0))) (fun t => t.err) =
    some ⟨.clenOverflow, .empty⟩ := by decide +kernel

/-- R225's example: 17 with extra 7 appends ten zeros. -/
theorem test_zero_short : view (exec .clZeroShort (inSequence [0x07#8] [5])) (fun t => t.dyn.lens) =
    some (5 :: List.replicate 10 0) := by decide +kernel

/-- P4: a literal 'a' (bit 0). -/
theorem test_P4_literal : view (step (inP4 [0x00#8] .step)) (fun t => (t.rdResp, t.win, t.winPos)) =
    some ([0x61#8], [(0, 0x61#8)], 1#15) := by decide +kernel

/-- P4: EOB (bits 1 0) clears the codes. -/
theorem test_P4_end_of_block : view (step (inP4 [0b01#8] .step)) (fun t => (t.mode, t.ll, t.dist)) =
    some (.idle, none, .absent) := by decide +kernel

/-- P4: LENSYM 258 (bits 1 1) assembles 4. -/
theorem test_P4_length : view (step (inP4 [0b11#8] .step)) (fun t => (t.len, t.phase)) = some (4, .distSymbol) := by
  decide +kernel

/-- Y3: the DUMMY code word (bit 1). -/
theorem test_vector_Y3 : view (step { inP4 [0b1#8] .distSymbol with len := 4 }) (fun t => t.err) =
    some ⟨.reservedDist, .dummy⟩ := by decide +kernel

/-- L2: length 4 at distance 2 after "Hi" gives "HiHi". -/
theorem test_vector_L2 :
    view (exec .dist1 { inP4 [] .distSymbol with len := 4, win := [(0, 0x48#8), (1, 0x69#8)], winPos := 2#15 })
      (fun t => (t.rdResp, t.winPos, t.len)) = some ([0x48#8, 0x69#8, 0x48#8, 0x69#8], 6#15, 0) := by decide +kernel

/-- L3: symbol 284 with extra 31 assembles 258. -/
theorem test_vector_L3 : view (exec .len284 (inP4 [0x1F#8] .step)) (fun t => t.len) = some 258 := by decide +kernel

/-- R257's example: DISTSYM 29 8191 is distance 32768: the copy reads the slot it is about to write. -/
theorem test_largest_distance :
    view (exec .dist29 { inP4 [0xFF#8, 0x1F#8] .distSymbol with len := 3, win := [(7, 0x55#8)], winPos := 7#15 })
      (fun t => t.rdResp) = some [0x55#8, 0x00#8, 0x00#8] := by decide +kernel

/-- Z1: a distance of 5 before any byte was decoded reads zeros. -/
theorem test_vector_Z1 : view (exec .dist4 { inP4 [0x00#8] .distSymbol with len := 3 }) (fun t => t.rdResp) =
    some [0#8, 0#8, 0#8] := by decide +kernel

/-- F2: symbol 286. -/
theorem test_vector_F2 : view (exec (.lenReserved 286) (inP4 [] .step)) (fun t => (t.err, t.err.code.number)) =
    some (⟨.reservedLitlen, .symbol 286⟩, 5#8) := by decide +kernel

/-- Y1: a length symbol with no distance code. -/
theorem test_vector_Y1 : view (exec .len257 { inP4 [] .step with dist := .noCode }) (fun t => (t.err, t.responses)) =
    some (⟨.noDistCode, .empty⟩, [.fault .noDistCode .empty]) := by decide +kernel

/-- Two bytes emitted with room for one: the other is staged (R80). -/
theorem test_emit_stages : (emitAll [1#8, 2#8] { inRead [] .huff .step with rdCount := 1 }).rdResp = [1#8] ∧
    stagedBytes (emitAll [1#8, 2#8] { inRead [] .huff .step with rdCount := 1 }) = [2#8] := by decide +kernel

/-! ## Commands -/

/-- A CORE bound to the given bytes with the given commands to come. -/
def withCommands (bytes : List Byte) (cmds : List CmdWord) : State :=
  State.construct ⟨4096, 2, false, false⟩ (sampleSource bytes) cmds

/-- K2: READ 0 at the start. -/
theorem test_vector_K2 : view (step (withCommands [] [⟨0#2, 0#31⟩])) (fun t => t.responses) = some [.zero] := by
  decide +kernel

/-- K6: ATTACH right after reset. -/
theorem test_vector_K6 : view (step (withCommands [] [⟨2#2, 0#31⟩])) (fun t => (t.mode, t.responses)) =
    some (.error, [.fault .useAttachNotDetached .empty]) := by decide +kernel

/-- K9: DETACH before any READ makes no source request. -/
theorem test_vector_K9 : view (step (withCommands [1#8] [⟨1#2, 0#31⟩]))
    (fun t => (t.mode, t.detached, t.responses, t.input.src.txns)) = some (.passthru, true, [.done], []) := by
  decide +kernel

/-- K5: CLOSE, and READ after it. -/
theorem test_vector_K5 : view (step (withCommands [] [⟨3#2, 0#31⟩])) (fun t => (t.mode, t.responses)) =
      some (.closed, [.done]) ∧
    view (exec (.cmdRead 1) { withCommands [] [] with mode := .closed }) (fun t => t.responses) =
      some [.fault .useClosed .empty] := by decide +kernel

/-- K1, its second READ: READ 4 drains four of the five staged bytes. -/
theorem test_vector_K1 :
    view (step { withCommands [] [⟨0#2, 4#31⟩] with mode := .huff, stage := [0x62#8, 0x63#8, 0x61#8, 0x62#8, 0x63#8], stageLen := 5 })
      (fun t => (t.responses, stagedBytes t)) = some ([.data [0x62#8, 0x63#8, 0x61#8, 0x62#8]], [0x63#8]) := by
  decide +kernel

/-- K4: all 14 bytes delivered, 8 consumed: DETACH issues SrcUnread(6) and the source position is 8. -/
theorem test_vector_K4 :
    view (exec .cmdDetach
        { State.construct ⟨4096, 2, true, false⟩ ⟨List.replicate 14 0#8, 14, [], .endOfData, [.request 4096], false⟩ [] with
          final := true,
          input := { Input.reset ⟨List.replicate 14 0#8, 14, [], .endOfData, [.request 4096], false⟩ with
            inbuf := List.replicate 14 0#8, inFill := 14, inPos := 8, recv := 14 } })
      (fun t => (t.mode, t.input.src.pos, t.input.streamPos, t.input.src.txns)) =
      some (.released, 8, 0, [.request 4096, .unread 6]) := by
  decide +kernel

/-- S3's end, after DETACH: READ 2 answers two of the three bytes left, with no request. -/
theorem test_vector_S3 :
    view (exec (.cmdRead 2)
        { withCommands [] [] with
          mode := .passthru, detached := true,
          input := { sampleInput [] with inbuf := [0x41#8, 0x42#8, 0x43#8], inFill := 3, inPos := 0, recv := 3 } })
      (fun t => (t.responses, t.input.inPos, t.input.src.txns)) = some ([.data [0x41#8, 0x42#8]], 2, []) := by
  decide +kernel

/-- READ re-raises in ERROR (K7). -/
theorem test_vector_K7 :
    view (exec (.cmdRead 1) { withCommands [] [] with mode := .error, err := ⟨.reservedBtype, .empty⟩ })
      (fun t => t.responses) = some [.fault .reservedBtype .empty] := by decide +kernel

/-- READ after a rewinding DETACH is E_USE_READ_RELEASED (K4), a second DETACH E_USE_DETACH_TWICE (K3). -/
theorem test_usage_errors :
    view (exec (.cmdRead 1) { withCommands [] [] with mode := .released, detached := true }) (fun t => t.err.code.number) =
      some 35#8 ∧
    view (exec .cmdDetach { withCommands [] [] with mode := .passthru, detached := true }) (fun t => t.err.code.number) =
      some 34#8 := by decide +kernel

/-- After A1's step 3: the first stream has ended and CORE is detached, with bytes of the second in INBUF. -/
def betweenStreams : State :=
  { withCommands [] [] with mode := .passthru, detached := true, final := true, win := [(0, 1#8)], winPos := 9#15,
                            input := { sampleInput [] with inbuf := [7#8], inFill := 1, recv := 1 } }

/-- A1, step 4: ATTACH clears the window and FINAL and keeps the input. -/
theorem test_vector_A1 : view (exec .cmdAttach betweenStreams) (fun t => (t.mode, t.final, t.detached)) =
      some (.idle, false, false) ∧
    view (exec .cmdAttach betweenStreams) (fun t => (t.win, t.winPos, t.input.inFill)) = some ([], 0#15, 1) := by
  decide +kernel

/-- K11: the source's error is carried verbatim. -/
theorem test_vector_K11 :
    view (step { inRead [] .idle .step with input := Input.reset ⟨[], 0, [], .ioError [0x73#8], [], false⟩ })
      (fun t => (t.err, t.err.code.number)) = some (⟨.io, .payload [0x73#8]⟩, 17#8) := by decide +kernel

/-- A source that never answers leaves CORE waiting (R359). -/
theorem test_silent_source :
    view (step { inRead [] .idle .step with input := Input.reset ⟨[], 0, [], .silent, [], false⟩ })
      (fun t => (t.phase, t.responses)) = some (.waiting, []) := by decide +kernel

/-- withFetchWord places the word where the next step reads it: EOB as a 16-bit table word ends the block. -/
theorem test_fetch_word : view (step (State.reset.withFetchWord 16 256)) (fun t => (t.mode, t.ll)) =
    some (.idle, none) := by decide +kernel

/-! ## Witnesses: for each statement with hypotheses, a state and operands that meet all of them together -/

/-- The input layer at reset is one from which fields can be read. -/
theorem sampleInput_ready (bytes : List Byte) : (sampleInput bytes).Ready 4096 :=
  ⟨by decide, ⟨Nat.zero_le _, Nat.one_pos, Nat.le_refl _, Nat.zero_le _, by simp [sampleInput, Input.reset], Nat.zero_le _,
    Nat.zero_le _, fun _ => ⟨rfl, rfl⟩⟩,
    Nat.le_refl _, rfl⟩

/-- An input layer with 12 bits in ACC and a byte in INBUF, of a source of three bytes. -/
def midInput : Input :=
  ⟨0xABC#64, 12, [0x55#8, 0x77#8], 2, 1, [], 3, ⟨[0xC0#8, 0xAB#8, 0x77#8], 3, [], .endOfData, [], false⟩⟩

theorem midInput_ready : midInput.Ready 4096 :=
  ⟨by decide, ⟨by decide, by decide, by decide, by decide, by decide, by decide, by decide, by decide⟩, by decide, rfl⟩

theorem midInput_coherent : midInput.Coherent := ⟨[false, false, false, false], by decide⟩

/-- Encodings: every value hypothesis at a boundary. -/
theorem witness_decode_and_encode :
    (Instr.lenReserved 287).wellFormed = true ∧ (Instr.distReserved 32).wellFormed = true ∧
      (Instr.cmdRead 2147483647).wellFormed = true ∧
      decode .command 0x1FFFFFFFC = .ok (.cmdRead 2147483647) ∧ 0x1FFFFFFFC % 4 = 0 ∧ decode .command 3 = .ok .cmdClose ∧
      decode .litlenSymbol 285 = .ok .len285 := by decide

theorem witness_matching_row :
    31 < 2 ^ Format.width .clenSymbol ∧ decode .clenSymbol 31 = .error .symbolOutOfAlphabet ∧
      18 < 2 ^ Format.width .clenSymbol ∧ decode .clenSymbol 18 = .ok .clZeroLong ∧
      (Instr.clZeroLong).row.format = .clenSymbol ∧ 288 < 2 ^ Format.width .litlenSymbol ∧
      decode .litlenSymbol 288 = .error .symbolOutOfAlphabet := by decide

theorem witness_operand_ranges : 31 < 2 ^ (lengthOperand 284).extra ∧ (lengthOperand 284).base + 31 = 258 ∧
    (lengthOperand 257).base = 3 ∧ 8191 < 2 ^ (distanceOperand 29).extra ∧
    (distanceOperand 29).base + 8191 = 32768 ∧ (distanceOperand 0).base = 1 := by decide

/-- ReadBitsTakesNextBits, BufferedBitsNeedNoRequest: 16 bits from three bytes; and from buffered bits alone. -/
theorem witness_read_bits :
    (sampleInput [1#8, 2#8, 3#8]).Ready 4096 ∧ 16 ≤ (sampleInput [1#8, 2#8, 3#8]).ahead.length ∧
      readResult (readBits 4096 16 (sampleInput [1#8, 2#8, 3#8])) = some (513, 0, 0) ∧
      midInput.Ready 4096 ∧ 16 ≤ midInput.accN + 8 * (midInput.inFill - midInput.inPos) ∧
      readResult (readBits 4096 16 midInput) = some (0x7ABC, 4, 7) :=
  ⟨sampleInput_ready _, by decide, by decide +kernel, midInput_ready, by decide, by decide +kernel⟩

theorem witness_read_bits_order : midInput.Ready 4096 ∧ midInput.Coherent ∧
    readResult (readBits 4096 16 midInput) = some (0x7ABC, 4, 7) ∧ (8 : Nat) + 8 ≤ 16 :=
  ⟨midInput_ready, midInput_coherent, by decide +kernel, by decide⟩

theorem witness_missing_bits : (sampleInput []).Ready 4096 ∧ (sampleInput []).ahead.length < 1 ∧
    midInput.Ready 4096 ∧ midInput.ahead.length = 20 := ⟨sampleInput_ready _, by decide, midInput_ready, by decide⟩

theorem witness_source_answers : (sampleSource [1#8]).rest ≠ [] ∧ (sampleSource []).rest = [] ∧ (1 : Nat) ≤ 4096 := by
  decide

theorem witness_align : midInput.Sound 4096 ∧ midInput.accN % 8 = 4 := ⟨midInput_ready.2.1, by decide⟩

/-- StoredByteComesFromTheNextPlace: with all buffers empty, and with bytes in INBUF. -/
theorem witness_stored_byte : (sampleInput [9#8]).Ready 4096 ∧ (sampleInput [9#8]).accN % 8 = 0 ∧
    8 ≤ (sampleInput [9#8]).ahead.length ∧ (alignToByte midInput).accN % 8 = 0 ∧ 8 ≤ (alignToByte midInput).ahead.length :=
  ⟨sampleInput_ready _, by decide, by decide, by decide +kernel, by decide +kernel⟩

/-- BuildOutcomeByCounting: a code of each outcome, and a distance code of two symbols. -/
theorem witness_build_outcome :
    openSlots [1, 1, 1] 1 < lengthCount [1, 1, 1] 1 ∧ 0 < openSlots [1] 16 ∧ openSlots [1, 2, 2] 16 = 0 ∧
      (lengthCount [1, 2, 2] 2 : Int) ≤ openSlots [1, 2, 2] 2 ∧ 2 ≤ ([1, 1].filter (· ≠ 0)).length := by decide

theorem witness_built_tree : buildResult [1, 2, 2] .clen = (some [.leaf 0, .node 1, .leaf 1, .leaf 2], none) ∧
    buildResult [1] .dist = (some [.leaf 0, .dummy], none) ∧ [1, 2, 2].length ≤ CodeKind.clen.alphabet ∧
    codeWord [1, 2, 2] 2 = some [true, true] := by decide +kernel

/-- DecodeSymFollowsCodeWord, for a symbol and for DUMMY. -/
theorem witness_code_word :
    (sampleInput [1#8]).Ready 4096 ∧ Tree.follow [.leaf 0, .dummy] 0 [true] = some .dummy ∧
      [true] <+: (sampleInput [1#8]).ahead ∧ Tree.follow [.node 1, .leaf 5, .leaf 6, .leaf 7] 0 [true] = some (.leaf 5) :=
  ⟨sampleInput_ready _, by decide, ⟨List.replicate 7 false, by decide⟩, by decide⟩

theorem witness_table : Tree.full [.leaf 0, .leaf 1] .clen = true ∧ midInput.Ready 4096 ∧
    15 ≤ midInput.accN + 8 * (midInput.inFill - midInput.inPos) := ⟨by decide, midInput_ready, by decide⟩

/-- The hypotheses on fields of the block and sequence statements, at their boundaries. -/
theorem witness_blocks : (0xFFFC#16 : Count16) = ~~~0x0003#16 ∧ (0#16 : Count16) ≠ ~~~0#16 ∧
    (1#16 : Count16).toNat = 1 ∧ 1 < (0xFFFF#16 : Count16).toNat ∧ (inSequence [] [8]).dyn.lens.length + 1 < 257 + 1 ∧
    (inSequence [] (List.replicate 257 0)).dyn.lens.length + 1 = 257 + 1 := by decide +kernel

theorem witness_dynamic_header : (inRead (List.replicate 8 0#8) .idle .dynamicHeader).input.Ready 4096 ∧
    3 * ((15#4).toNat + 4) ≤ (inRead (List.replicate 8 0#8) .idle .dynamicHeader).input.ahead.length :=
  ⟨sampleInput_ready _, by decide +kernel⟩

/-- RepeatSymbolsAppendRuns: each symbol, and each of its three outcomes. -/
theorem witness_repeats :
    (inSequence [0#8] [8]).input.Ready 4096 ∧ 7 ≤ (inSequence [0#8] [8]).input.ahead.length ∧
      (inSequence [0#8] [8]).dyn.lens.getLast? = some 8 ∧ 1 + 11 < 257 + 1 ∧
      (inSequence [0#8] (List.replicate 255 8)).dyn.lens.length + 3 = 257 + 1 ∧
      257 + 1 < (inSequence [0#8] (List.replicate 256 8)).dyn.lens.length + 3 ∧ (inSequence [0#8] []).dyn.lens = [] :=
  ⟨sampleInput_ready _, by decide, by decide, by decide, by decide +kernel, by decide +kernel, by decide⟩

/-- The length and distance statements: symbols with the most and with no extra bits; with and without a distance code. -/
theorem witness_pairs :
    (.len284, 227, 5) ∈ lengthRows ∧ (.len285, 258, 0) ∈ lengthRows ∧ (.dist29, 24577, 13) ∈ distanceRows ∧
      (.dist0, 1, 0) ∈ distanceRows ∧ (inP4 [0#8, 0#8] .distSymbol).input.Ready 4096 ∧
      13 ≤ (inP4 [0#8, 0#8] .distSymbol).input.ahead.length ∧ (inP4 [0#8, 0#8] .distSymbol).dist ≠ .noCode ∧
      (inP4 [0#8, 0#8] .distSymbol).win.wf = true ∧ { inP4 [] .step with dist := .noCode }.dist = .noCode ∧
      (inP4 [] .step).input.ahead.length < 1 ∧ (inP4 [] .step).input.src.ending = .endOfData :=
  ⟨by decide, by decide, by decide, by decide, sampleInput_ready _, by decide, by decide +kernel, by decide, rfl, by decide,
    rfl⟩

/-- DynamicHeaderCutShort: 8 bits where 12 are needed, and 1 where 2 are needed; a repeat with a previous length. The same for a
source that ends in an error or in silence: the hypotheses do not speak of the end. -/
theorem witness_header_cut_short :
    (inRead [0#8] .idle .dynamicHeader).input.Ready 4096 ∧
      (inRead [0#8] .idle .dynamicHeader).input.ahead.length < 3 * ((0#4).toNat + 4) ∧
      (inSequence [] [8]).input.Ready 4096 ∧ (inSequence [] [8]).input.ahead.length < 2 ∧ (inSequence [] [8]).dyn.lens ≠ [] :=
  ⟨sampleInput_ready _, by decide, sampleInput_ready _, by decide, by decide⟩

/-- EmittingFillsWindowAndOutput and ReadDrainsStagedBytes: a state with staged bytes. -/
def staged : State :=
  { withCommands [] [] with mode := .huff, stage := [1#8, 2#8, 3#8], stageLen := 3, stagePos := 1 }

theorem witness_staged : staged.StageOk ∧ staged.win.wf = true ∧ staged.mode.decodes = true ∧
    staged.stageLen ≤ staged.stage.length ∧ stagedBytes staged = [2#8, 3#8] :=
  ⟨⟨by decide, by decide, by decide, by decide, by decide, by decide⟩, by decide, by decide, by decide, by decide⟩

/-! ### States that meet the invariant -/

/-- The machine right after reset meets the invariant, for every source and every list of commands. -/
theorem withCommands_inv (bytes : List Byte) (cmds : List CmdWord) : Inv (withCommands bytes cmds) :=
  ⟨⟨Nat.le_of_ble_eq_true rfl, Nat.le_of_ble_eq_true rfl, Nat.le_of_ble_eq_true rfl⟩, (sampleInput_ready bytes).2.1, rfl, ⟨rfl, rfl⟩,
    ⟨nofun, fun _ _ _ => rfl, fun _ => rfl, nofun, fun _ _ => rfl, nofun, fun _ => rfl, fun _ _ => Nat.le_refl _⟩,
    ⟨Nat.le_refl _, Nat.zero_le _, fun _ => rfl, fun _ _ => Nat.le_refl _, fun _ => rfl, fun _ => rfl⟩,
    ⟨fun _ => ⟨rfl, rfl⟩, Nat.le_refl _, Nat.zero_le _, fun _ => rfl, .inl (Nat.zero_le _), nofun, nofun, nofun, nofun,
      fun _ _ => rfl, nofun, fun _ _ => rfl, nofun⟩⟩

theorem withCommands_coherent (bytes : List Byte) (cmds : List CmdWord) : (withCommands bytes cmds).input.Coherent :=
  List.suffix_refl _

/-- A READ in progress between blocks. -/
theorem idleStep_inv : Inv (inRead [0x03#8] .idle .step) :=
  ⟨⟨by decide, by decide, by decide⟩, (sampleInput_ready _).2.1, rfl, ⟨rfl, rfl⟩,
    ⟨by decide, by decide, by decide, by decide, by decide, by decide, by decide, by decide⟩,
    ⟨by decide, by decide, by decide, by decide, by decide, by decide⟩,
    ⟨by decide, by decide, by decide, by decide, by decide, by decide, by decide, by decide, by decide, by decide, by decide,
      by decide, by decide⟩⟩

/-- A READ in progress in a stored block with three bytes left. -/
def storedStep : State := { inRead [0x41#8, 0x42#8, 0x43#8] .stored .step with storedRem := 3#16 }

theorem storedStep_inv : Inv storedStep :=
  ⟨⟨by decide, by decide, by decide⟩, (sampleInput_ready _).2.1, rfl, ⟨rfl, rfl⟩,
    ⟨by decide, by decide, by decide, by decide, by decide, by decide, by decide, by decide⟩,
    ⟨by decide, by decide, by decide, by decide, by decide, by decide⟩,
    ⟨by decide, by decide, by decide, by decide, by decide, by decide, by decide, by decide, by decide, by decide, by decide,
      by decide, by decide⟩⟩

/-- A READ in progress in a Huffman block. -/
theorem huffStep_inv : Inv (inP4 [0x00#8] .step) :=
  ⟨⟨by decide, by decide, by decide⟩, (sampleInput_ready _).2.1, rfl,
    ⟨⟨_, rfl, by decide, rfl⟩, .inr ⟨_, rfl, by decide, rfl⟩⟩,
    ⟨by decide, by decide, by decide, by decide, by decide, by decide, by decide, by decide⟩,
    ⟨by decide, by decide, by decide, by decide, by decide, by decide⟩,
    ⟨by decide, by decide, by decide, by decide, by decide, by decide, by decide, by decide, by decide, by decide, by decide,
      by decide, by decide⟩⟩

/-- A detached CORE that holds one unconsumed byte. -/
def detached : State :=
  { withCommands [0x01#8, 0x41#8] [] with
    mode := .passthru, detached := true,
    input := { sampleInput [0x01#8, 0x41#8] with inbuf := [0x01#8, 0x41#8], inFill := 2, inPos := 1, recv := 2,
                                                 src := { sampleSource [0x01#8, 0x41#8] with pos := 2 } } }

theorem detached_inv : Inv detached :=
  ⟨⟨by decide, by decide, by decide⟩, ⟨by decide, by decide, by decide, by decide, by decide, by decide, by decide, by decide⟩, rfl,
    ⟨rfl, rfl⟩, ⟨by decide, by decide, by decide, by decide, by decide, by decide, by decide, by decide⟩,
    ⟨by decide, by decide, by decide, by decide, by decide, by decide⟩,
    ⟨by decide, by decide, by decide, by decide, by decide, by decide, by decide, by decide, by decide, by decide, by decide,
      by decide, by decide⟩⟩

/-- A CORE terminated by an error. -/
def terminated : State := { withCommands [] [] with mode := .error, err := ⟨.reservedBtype, .empty⟩ }

theorem terminated_inv : Inv terminated :=
  ⟨⟨by decide, by decide, by decide⟩, (sampleInput_ready _).2.1, rfl, ⟨rfl, rfl⟩,
    ⟨by decide, by decide, by decide, by decide, by decide, by decide, by decide, by decide⟩,
    ⟨by decide, by decide, by decide, by decide, by decide, by decide⟩,
    ⟨by decide, by decide, by decide, by decide, by decide, by decide, by decide, by decide, by decide, by decide, by decide,
      by decide, by decide⟩⟩

/-- A CORE at the end of its stream. -/
def ended : State := { withCommands [] [⟨0#2, 5#31⟩] with final := true }

theorem ended_inv : Inv ended :=
  ⟨⟨by decide, by decide, by decide⟩, (sampleInput_ready _).2.1, rfl, ⟨rfl, rfl⟩,
    ⟨by decide, by decide, by decide, by decide, by decide, by decide, by decide, by decide⟩,
    ⟨by decide, by decide, by decide, by decide, by decide, by decide⟩,
    ⟨by decide, by decide, by decide, by decide, by decide, by decide, by decide, by decide, by decide, by decide, by decide,
      by decide, by decide⟩⟩

/-- A detached CORE that holds nothing, over a source with the given bytes and end. -/
def forwarding (bytes : List Byte) (ending : SrcEnd) : State :=
  { State.construct ⟨4096, 2, false, false⟩ ⟨bytes, 0, [], ending, [], false⟩ [] with mode := .passthru, detached := true }

theorem forwarding_inv (bytes : List Byte) (ending : SrcEnd) : Inv (forwarding bytes ending) :=
  ⟨⟨Nat.le_of_ble_eq_true rfl, Nat.le_of_ble_eq_true rfl, Nat.le_of_ble_eq_true rfl⟩,
    ⟨Nat.zero_le _, Nat.one_pos, Nat.le_refl _, Nat.zero_le _,
      by simp [forwarding, State.construct, Input.reset], Nat.le_refl _, Nat.zero_le _, fun _ => ⟨rfl, rfl⟩⟩,
    rfl, ⟨rfl, rfl⟩,
    ⟨nofun, fun _ _ _ => rfl, nofun, fun _ => rfl, fun _ _ => rfl, nofun, fun _ => rfl, fun _ _ => Nat.le_refl _⟩,
    ⟨Nat.le_refl _, Nat.zero_le _, fun _ => rfl, fun _ _ => Nat.le_refl _, fun _ => rfl, fun _ => rfl⟩,
    ⟨fun _ => ⟨rfl, rfl⟩, Nat.le_refl _, Nat.zero_le _, fun _ => rfl, .inl (Nat.zero_le _), nofun, nofun, nofun, nofun,
      fun _ _ => rfl, nofun, fun _ _ => rfl, nofun⟩⟩

/-- A closed CORE. -/
def closed : State := { withCommands [1#8] [] with mode := .closed }

theorem closed_inv : Inv closed :=
  ⟨⟨by decide, by decide, by decide⟩, (sampleInput_ready _).2.1, rfl, ⟨rfl, rfl⟩,
    ⟨by decide, by decide, by decide, by decide, by decide, by decide, by decide, by decide⟩,
    ⟨by decide, by decide, by decide, by decide, by decide, by decide⟩,
    ⟨by decide, by decide, by decide, by decide, by decide, by decide, by decide, by decide, by decide, by decide, by decide,
      by decide, by decide⟩⟩

/-- CORE in a Huffman block with five bytes staged and the given READ to come. -/
def stagedRead (count : BitVec 31) : State :=
  { inP4 [0x00#8] .command with
    rdCount := 0, stage := [0x62#8, 0x63#8, 0x61#8, 0x62#8, 0x63#8], stageLen := 5, cmds := [⟨0#2, count⟩] }

theorem stagedRead_inv (count : BitVec 31) : Inv (stagedRead count) :=
  ⟨⟨Nat.le_of_ble_eq_true rfl, Nat.le_of_ble_eq_true rfl, Nat.le_of_ble_eq_true rfl⟩, (sampleInput_ready _).2.1, rfl,
    ⟨⟨_, rfl, by decide, rfl⟩, .inr ⟨_, rfl, by decide, rfl⟩⟩,
    ⟨nofun, fun _ _ _ => rfl, fun _ => rfl, nofun, fun _ _ => rfl, nofun, nofun, fun _ _ => Nat.le_refl _⟩,
    ⟨Nat.zero_le _, Nat.le_of_ble_eq_true rfl, nofun, fun _ _ => Nat.le_refl _, nofun, nofun⟩,
    ⟨fun _ => ⟨rfl, rfl⟩, Nat.le_refl _, Nat.zero_le _, fun _ => rfl, .inl (Nat.zero_le _), nofun, nofun, nofun, nofun,
      fun _ _ => rfl, nofun, fun _ _ => rfl, nofun⟩⟩

theorem witness_stored_run : Inv storedStep ∧ storedStep.phase = .step ∧ storedStep.mode = .stored ∧
    3 ≤ storedStep.storedRem.toNat ∧ 3 ≤ storedStep.room ∧ 8 * 3 ≤ storedStep.input.ahead.length :=
  ⟨storedStep_inv, rfl, rfl, by decide, by decide, by decide⟩

/-- ReadFillsItsResponse at the acceptance: a READ that the staged bytes fill (K1), one that goes on behind them, one at the end
of the stream, and READ 0. -/
theorem witness_read_accepted : Inv (stagedRead 4#31) ∧ Inv (stagedRead 6#31) ∧ (stagedRead 6#31).phase = .command ∧
    (stagedRead 6#31).mode.decodes = true ∧ (4#31).toNat ≤ (stagedBytes (stagedRead 4#31)).length ∧
    view (step (stagedRead 4#31)) (fun t => t.responses) = some [.data [0x62#8, 0x63#8, 0x61#8, 0x62#8]] ∧
    view (step (stagedRead 6#31)) (fun t => (t.phase, t.rdResp)) = some (.step, [0x62#8, 0x63#8, 0x61#8, 0x62#8, 0x63#8]) ∧
    Inv ended ∧ view (step ended) (fun t => t.responses) = some [.eos] ∧ Inv (withCommands [] [⟨0#2, 0#31⟩]) :=
  ⟨stagedRead_inv _, stagedRead_inv _, rfl, rfl, by decide, by decide +kernel, by decide +kernel, ended_inv,
    by decide +kernel, withCommands_inv _ _⟩

/-- ReadFillsItsResponse: the last byte of a full response. -/
theorem witness_read_fills : Inv (inP4 [0x00#8] .step) ∧
    view (step { inP4 [0x00#8] .step with rdCount := 1 }) (fun t => t.responses) = some [.data [0x61#8]] :=
  ⟨huffStep_inv, by decide +kernel⟩

/-- PassthroughReadForwards: with and without bytes held, with and without bytes at the source. -/
theorem witness_passthrough : Inv detached ∧ detached.mode = .passthru ∧ 0 < detached.input.unconsumed ∧
    Inv (forwarding [5#8] .endOfData) ∧ (forwarding [5#8] .endOfData).mode = .passthru ∧
    (forwarding [5#8] .endOfData).phase = .command ∧ (forwarding [5#8] .endOfData).input.unconsumed = 0 ∧
    (forwarding [5#8] .endOfData).input.src.rest ≠ [] ∧ Inv (forwarding [] .silent) ∧
    Inv (forwarding [] (.ioError [7#8])) ∧ Inv (forwarding [] .endOfData) ∧
    (forwarding [] .silent).input.unconsumed = 0 ∧ (forwarding [] .silent).input.src.rest = [] :=
  ⟨detached_inv, rfl, by decide, forwarding_inv _ _, rfl, rfl, by decide, by decide, forwarding_inv _ _, forwarding_inv _ _,
    forwarding_inv _ _, by decide, by decide⟩

/-- CloseIsIdempotent and ErrorAndClosedAnswersChangeNothing: a CORE that is closed, and ones that are not. -/
theorem witness_close : Inv closed ∧ closed.mode = .closed ∧ closed.phase = .command ∧ closed.rdCount = 0 ∧
    closed.rdResp = [] ∧ Inv detached ∧ detached.mode ≠ .closed :=
  ⟨closed_inv, rfl, rfl, rfl, rfl, detached_inv, by decide⟩

/-- The hypotheses of DETACH, ATTACH, CLOSE, READ 0 and the answers in ERROR and CLOSED. -/
theorem witness_commands : Inv (withCommands [1#8] []) ∧ (withCommands [1#8] []).input.Coherent ∧
    (withCommands [1#8] []).mode.decodes = true ∧ (withCommands [1#8] []).params.rewindCapable = false ∧
    (withCommands [1#8] []).phase = .command ∧ detached.phase = .command ∧ detached.rdCount = 0 ∧ detached.rdResp = [] ∧
    detached.detached = true ∧ terminated.mode = .error ∧ terminated.phase = .command :=
  ⟨withCommands_inv _ _, withCommands_coherent _ _, rfl, rfl, rfl, rfl, rfl, rfl, rfl, rfl, rfl⟩

/-- MonotoneState's exception and StreamPositionMovesForward's: ATTACH clears FINAL, the rewind sets the position back to 0. -/
theorem test_position_and_final :
    view (exec .cmdAttach { detached with final := true }) (fun t => (t.mode, t.final)) = some (.idle, false) ∧
      view (exec (.cmdRead 1) { detached with final := true }) (fun t => t.final) = some true ∧
      detached.input.streamPos = 8 ∧
      view (exec .cmdDetach { storedStep with phase := .command, params := ⟨4096, 2, true, false⟩ })
        (fun t => (t.mode, t.input.streamPos)) = some (.released, 0) := by decide +kernel

/-- A source bound in its middle: the stream's bit 0 is the first bit delivered to CORE (R48). -/
theorem test_bound_in_the_middle :
    (Input.reset ⟨[0x00#8, 0x01#8], 1, [], .endOfData, [], false⟩).streamPos = 0 ∧
      (Input.reset ⟨[0x00#8, 0x01#8], 1, [], .endOfData, [], false⟩).streamBit 0 = true := by decide

/-- DetachRewindsToFirstUnconsumedByte: a source that can be rewound. -/
theorem witness_rewind : (State.construct ⟨4096, 2, true, false⟩ (sampleSource [1#8]) []).params.rewindCapable = true ∧
    (State.construct ⟨4096, 2, true, false⟩ (sampleSource [1#8]) []).phase = .command ∧
    (State.construct ⟨4096, 2, true, false⟩ (sampleSource [1#8]) []).input.Coherent :=
  ⟨rfl, rfl, List.suffix_refl _⟩

/-- StepRunsDecodedInstruction: a command, and an element of the stream. -/
theorem witness_step_runs :
    decode .command (CmdWord.value ⟨0#2, 5#31⟩) = .ok (.cmdRead 5) ∧ ended.cmds = [⟨0#2, 5#31⟩] ∧
      expectedFormat (inP4 [0x00#8] .step) = some .litlenSymbol ∧
      (match fetchValue .litlenSymbol (inP4 [0x00#8] .step) with
        | .ok v inp => some (v, inp.accN)
        | _ => none) = some (97, 7) ∧ decode .litlenSymbol 97 = .ok (.lit 97#8) := by decide +kernel

theorem witness_field_step : Inv (inRead [0x03#8] .idle .step) ∧
    expectedFormat (inRead [0x03#8] .idle .step) = some .blockHeader ∧
    Format.width .blockHeader ≤ (inRead [0x03#8] .idle .step).input.ahead.length :=
  ⟨idleStep_inv, rfl, by decide⟩

theorem witness_symbol_step : Inv (inP4 [0x00#8] .step) ∧ expectedFormat (inP4 [0x00#8] .step) = some .litlenSymbol ∧
    (∃ c, (inP4 [0x00#8] .step).ll = some c ∧ c.tree = [.leaf 97, .node 1, .leaf 256, .leaf 258]) ∧
    Tree.follow [.leaf 97, .node 1, .leaf 256, .leaf 258] 0 [false] = some (.leaf 97) ∧
    [false] <+: (inP4 [0x00#8] .step).input.ahead :=
  ⟨huffStep_inv, rfl, ⟨_, rfl, rfl⟩, rfl, ⟨List.replicate 7 false, by decide⟩⟩

theorem witness_params : Params.default.inRange ∧ (sampleSource [1#8]).pos ≤ (sampleSource [1#8]).data.length :=
  ⟨⟨by decide, by decide, by decide⟩, by decide⟩

/-- The whole-machine statements: steps that read an element, run a command, fault and wait. -/
theorem witness_whole_machine :
    Inv (inP4 [0x00#8] .step) ∧ (inP4 [0x00#8] .step).input.Coherent ∧
      view (step (inP4 [0x00#8] .step)) (fun t => (t.mode, t.phase)) = some (.huff, .step) ∧
      Inv terminated ∧ view (step terminated) (fun t => t.mode) = some .error ∧
      (inP4 [0x00#8] .step).phase ≠ .waiting ∧ (inP4 [0x00#8] .step).input.src.ending ≠ .silent :=
  ⟨huffStep_inv, List.suffix_refl _, by decide +kernel, terminated_inv, by decide +kernel, by decide, by decide⟩

theorem witness_ended : Inv ended ∧ ended.phase = .command ∧ ended.atEos = true ∧ ended.cmds = [⟨0#2, 5#31⟩] :=
  ⟨ended_inv, rfl, rfl, rfl⟩

/-- `storedStep` with its three bytes already received. -/
def storedStepReceived : State :=
  { storedStep with input := { storedStep.input with inbuf := [0x41#8, 0x42#8, 0x43#8], inFill := 3, recv := 3,
                                                     src := { storedStep.input.src with pos := 3 } } }

theorem storedStepReceived_inv : Inv storedStepReceived :=
  ⟨⟨by decide, by decide, by decide⟩, ⟨by decide, by decide, by decide, by decide, by decide, by decide, by decide, by decide⟩, rfl,
    ⟨rfl, rfl⟩, ⟨by decide, by decide, by decide, by decide, by decide, by decide, by decide, by decide⟩,
    ⟨by decide, by decide, by decide, by decide, by decide, by decide⟩,
    ⟨by decide, by decide, by decide, by decide, by decide, by decide, by decide, by decide, by decide, by decide, by decide,
      by decide, by decide⟩⟩

/-- ResponsesIndependentOfChunking: the same stored bytes at the source, and already received. -/
theorem witness_chunking : Inv storedStep ∧ Inv storedStepReceived ∧ storedStep.mode.decodes = true ∧
    SameStream storedStep.input storedStepReceived.input ∧ SameButInput storedStep storedStepReceived ∧
    ∀ w ∈ ended.cmds, w.code = 0#2 :=
  ⟨storedStep_inv, storedStepReceived_inv, rfl, ⟨by decide, rfl⟩, rfl, by decide⟩

end Sys2Proof.Tests
end

section
/-! One equation per way a step goes, and from them the structure of a step (R124, R300, R303). -/

namespace Sys2Proof.Machine

/-! ## A read's three ends inside an element's meaning (R155, R345, R359) -/

section
variable {α : Type} (s : State) (k : α → State → Result)

@[simp] theorem onInput_of_ok (a : α) (inp : Input) : onInput s (.ok a inp) k = k a { s with input := inp } := rfl
@[simp] theorem onInput_of_fatal (c : Cause) (i : ErrInfo) (inp : Input) :
    onInput s (.fatal c i inp) k = .next (fatal c i { s with input := inp }) := rfl
@[simp] theorem onInput_of_wait (inp : Input) :
    onInput s (.wait inp) k = .next { s with input := inp, phase := .waiting } := rfl
end

/-- The value of an instruction runs that instruction, with READ's loop test after it (R124, R300). -/
theorem runValue_of_decode {f : Format} {v : Nat} {i : Instr} (h : decode f v = .ok i) (s : State) :
    runValue f v s = afterElement (exec i s) := by
  simp only [runValue, h]

/-! ## A step, by what the state expects -/

/-- With a command waiting and none in progress, the step runs its word (R63). -/
theorem step_of_command {s : State} {w : CmdWord} {rest : List CmdWord} (hphase : s.phase = .command)
    (hcmds : s.cmds = w :: rest) : step s = runValue .command w.value { s with cmds := rest } := by
  simp only [step, runNext, hphase, runCommand, hcmds]

theorem step_of_no_command {s : State} (hphase : s.phase = .command) (hcmds : s.cmds = []) : step s = .next s := by
  simp only [step, runNext, hphase, runCommand, hcmds]

theorem step_of_waiting {s : State} (hphase : s.phase = .waiting) : step s = .next s := by
  simp only [step, runNext, hphase]

/-- A format is expected in the phases of a READ in progress alone, and there the step reads a value of it (R303). -/
theorem step_of_expectedFormat {s : State} {f : Format} (hf : expectedFormat s = some f) :
    step s = onInput s (fetchValue f s) (runValue f) := by
  have hstep : step s = runElement s := by
    cases hphase : s.phase with
    | command | waiting => simp [expectedFormat, hphase] at hf
    | step | storedHeader | dynamicHeader | clenSymbol | distSymbol => simp only [step, runNext, hphase]
  rw [hstep]
  simp only [runElement, hf]

/-- Settles O45: each clause is the step's equation for the phase, with the end of the read where there is one. -/
theorem stepRunsDecodedInstruction : Obligations.StepRunsDecodedInstruction := by
  intro s
  refine ⟨?command, step_of_no_command, step_of_waiting, ?value, ?fatal, ?wait⟩
  case command =>
    intro w rest i hphase hcmds hdecode
    rw [step_of_command hphase hcmds, runValue_of_decode hdecode]
  case value =>
    intro f v inp i hf hfetch hdecode
    rw [step_of_expectedFormat hf, hfetch, onInput_of_ok, runValue_of_decode hdecode]
  case fatal =>
    intro f c info inp hf hfetch
    rw [step_of_expectedFormat hf, hfetch, onInput_of_fatal]
  case wait =>
    intro f inp hf hfetch
    rw [step_of_expectedFormat hf, hfetch, onInput_of_wait]

end Sys2Proof.Machine
end

section
/-! The input layer as a reader of the stream's bits: what ACC and INBUF hold, byte by byte, and what one byte's move into ACC
does (R36, R38, R151, R154, R161). -/

namespace Sys2Proof.Machine

/-! ## Bits of numbers and of bytes -/

@[simp] theorem bitsLsbFirst_length (n v : Nat) : (bitsLsbFirst n v).length = n := by simp [bitsLsbFirst]

@[simp] theorem byteBits_length (b : Byte) : (byteBits b).length = 8 := bitsLsbFirst_length _ _

@[simp] theorem streamBits_nil : streamBits [] = [] := rfl

@[simp] theorem streamBits_cons (b : Byte) (bs : List Byte) : streamBits (b :: bs) = byteBits b ++ streamBits bs := rfl

@[simp] theorem streamBits_append (bs cs : List Byte) : streamBits (bs ++ cs) = streamBits bs ++ streamBits cs :=
  List.flatMap_append

@[simp] theorem streamBits_length (bs : List Byte) : (streamBits bs).length = 8 * bs.length := by
  induction bs with
  | nil => rfl
  | cons b bs ih => simp [ih]; omega

/-- The low bits of a number come first. -/
theorem bitsLsbFirst_add (n m v : Nat) : bitsLsbFirst (n + m) v = bitsLsbFirst n v ++ bitsLsbFirst m (v / 2 ^ n) := by
  simp [bitsLsbFirst, List.range_add, Function.comp_def, Nat.testBit_div_two_pow, Nat.add_comm]

theorem bitsLsbFirst_mod (n v : Nat) : bitsLsbFirst n (v % 2 ^ n) = bitsLsbFirst n v := by
  refine List.map_congr_left fun j hj => ?_
  simp [Nat.testBit_mod_two_pow, List.mem_range.mp hj]

theorem packBits_bitsLsbFirst (n v : Nat) : packBits (bitsLsbFirst n v) = v % 2 ^ n := by
  induction n generalizing v with
  | zero => simp [bitsLsbFirst, packBits, Nat.mod_one]
  | succ n ih =>
    have hsplit : bitsLsbFirst (n + 1) v = v.testBit 0 :: bitsLsbFirst n (v / 2) := by
      rw [Nat.add_comm n 1, bitsLsbFirst_add 1 n v]
      simp [bitsLsbFirst]
    rw [hsplit, packBits, ih, Nat.testBit_zero, Nat.pow_succ', Nat.mod_mul]
    rcases Nat.mod_two_eq_zero_or_one v with h | h <;> simp [h]

/-! ## Buffers -/

@[simp] theorem bufSlice_zero (buf : List Byte) (i : Nat) : bufSlice buf i 0 = [] := rfl

@[simp] theorem bufSlice_length (buf : List Byte) (i n : Nat) : (bufSlice buf i n).length = n := by simp [bufSlice]

theorem bufSlice_add (buf : List Byte) (i n m : Nat) :
    bufSlice buf i (n + m) = bufSlice buf i n ++ bufSlice buf (i + n) m := by
  simp [bufSlice, List.range_add, Function.comp_def, Nat.add_assoc]

theorem bufSlice_succ (buf : List Byte) (i n : Nat) :
    bufSlice buf i (n + 1) = bufGet buf i :: bufSlice buf (i + 1) n := by
  rw [Nat.add_comm n 1, bufSlice_add]
  rfl

/-- Inside what is written a buffer is read as it is. -/
theorem bufSlice_eq_take_drop {buf : List Byte} {i n : Nat} (h : i + n ≤ buf.length) :
    bufSlice buf i n = (buf.drop i).take n := by
  refine List.ext_getElem (by simp; omega) fun j h₁ h₂ => ?_
  have hj : i + j < buf.length := by simp at h₁; omega
  simp [bufSlice, bufGet, hj]

/-! ## The bytes and bits ahead -/

/-- The bytes INBUF holds and CORE has not consumed (R38). -/
def Input.buffered (inp : Input) : List Byte := bufSlice inp.inbuf inp.inPos (inp.inFill - inp.inPos)

theorem Input.ahead_eq (inp : Input) :
    inp.ahead = bitsLsbFirst inp.accN inp.acc.toNat ++ (streamBits inp.buffered ++ (streamBits inp.direct ++ streamBits inp.src.rest)) := by
  simp [Input.ahead, Input.pendingBits, Input.buffered]

theorem Source.rest_length (src : Source) : src.rest.length = src.data.length - src.pos := by simp [Source.rest]

theorem Input.ahead_length (inp : Input) :
    inp.ahead.length = inp.accN + 8 * (inp.inFill - inp.inPos) + 8 * inp.direct.length + 8 * inp.src.rest.length := by
  simp [Input.ahead_eq, Input.buffered]
  omega

/-- The stream position and the bits ahead add up to all the bits of the stream (R48). -/
theorem Input.streamPos_add_ahead {cap : Nat} {inp : Input} (h : inp.Sound cap) :
    inp.streamPos + inp.ahead.length = 8 * ((inp.recv : Int) + inp.src.rest.length) := by
  have hc := h.cursor
  rw [Input.ahead_length, Input.streamPos]
  omega

/-- Bits leave ACC at its low end (R151). -/
theorem bitsLsbFirst_shiftRight {acc : AccWord} {n k : Nat} (h : k ≤ n) :
    bitsLsbFirst n acc.toNat = bitsLsbFirst k acc.toNat ++ bitsLsbFirst (n - k) (acc >>> k).toNat := by
  rw [BitVec.toNat_ushiftRight, Nat.shiftRight_eq_div_pow, ← bitsLsbFirst_add, Nat.add_sub_cancel' h]

theorem shiftRight_toNat_lt {acc : AccWord} {n k : Nat} (h : acc.toNat < 2 ^ n) (hk : k ≤ n) :
    (acc >>> k).toNat < 2 ^ (n - k) := by
  rw [BitVec.toNat_ushiftRight, Nat.shiftRight_eq_div_pow]
  apply Nat.div_lt_of_lt_mul
  rwa [← Nat.pow_add, Nat.add_sub_cancel' hk]

/-- A byte that enters ACC above its valid bits (R151). -/
theorem pushByte_toNat {b : Byte} {inp : Input} (hclear : inp.acc.toNat < 2 ^ inp.accN) (hroom : inp.accN ≤ 56) :
    (pushByte b inp).acc.toNat = inp.acc.toNat + 2 ^ inp.accN * b.toNat := by
  have hb := b.isLt
  have hshift : b.toNat * 2 ^ inp.accN < 2 ^ 64 := by
    calc b.toNat * 2 ^ inp.accN < 2 ^ 8 * 2 ^ inp.accN := Nat.mul_lt_mul_of_pos_right hb (Nat.two_pow_pos _)
      _ = 2 ^ (8 + inp.accN) := (Nat.pow_add 2 8 _).symm
      _ ≤ 2 ^ 64 := Nat.pow_le_pow_right (by omega) (by omega)
  simp only [pushByte, BitVec.toNat_or, BitVec.toNat_shiftLeft, BitVec.toNat_setWidth, Nat.shiftLeft_eq]
  rw [Nat.mod_eq_of_lt (a := b.toNat) (by omega), Nat.mod_eq_of_lt hshift, Nat.or_comm, Nat.mul_comm b.toNat,
    ← Nat.two_pow_add_eq_or_of_lt hclear, Nat.add_comm]

theorem pushByte_bits {b : Byte} {inp : Input} (hclear : inp.acc.toNat < 2 ^ inp.accN) (hroom : inp.accN ≤ 56) :
    bitsLsbFirst (inp.accN + 8) (pushByte b inp).acc.toNat = bitsLsbFirst inp.accN inp.acc.toNat ++ byteBits b := by
  have hpos := Nat.two_pow_pos inp.accN
  rw [pushByte_toNat hclear hroom, bitsLsbFirst_add, ← bitsLsbFirst_mod inp.accN, Nat.add_mul_mod_self_left,
    Nat.mod_eq_of_lt hclear, Nat.add_mul_div_left _ _ hpos, Nat.div_eq_of_lt hclear, Nat.zero_add]
  rfl

end Sys2Proof.Machine
end

section
/-! Reads as functions of the bits ahead (R60, R71, R154): what every read keeps of the input layer, and that its value and its
end are those of a parser of the bits ahead, whatever the source's answers are. -/

namespace Sys2Proof.Machine

/-! ## What reading keeps -/

/-- `inp'` is an input layer that reads from `inp` have left: it is sound, no bit is skipped, repeated or altered, and the
stream position moves on by the bits taken (R36, R38, R48, R71). -/
structure Input.Leads (cap : Nat) (inp inp' : Input) : Prop where
  sound : inp'.Sound cap
  filled : inp'.Filled
  suffix : inp'.ahead <:+ inp.ahead
  received : inp'.recv + inp'.src.rest.length = inp.recv + inp.src.rest.length
  origin : inp'.origin = inp.origin
  data : inp'.src.data = inp.src.data
  ending : inp'.src.ending = inp.src.ending

theorem Input.Leads.refl {cap : Nat} {inp : Input} (hs : inp.Sound cap) (hf : inp.Filled) : inp.Leads cap inp :=
  ⟨hs, hf, List.suffix_refl _, rfl, rfl, rfl, rfl⟩

theorem Input.Leads.trans {cap : Nat} {a b c : Input} (h : a.Leads cap b) (h' : b.Leads cap c) : a.Leads cap c :=
  ⟨h'.sound, h'.filled, h'.suffix.trans h.suffix, h'.received.trans h.received,
    h'.origin.trans h.origin, h'.data.trans h.data, h'.ending.trans h.ending⟩

theorem Input.Leads.ready {cap : Nat} {inp inp' : Input} (hr : inp.Ready cap) (h : inp.Leads cap inp')
    (hd : inp'.direct = inp.direct) : inp'.Ready cap :=
  ⟨hr.1, h.sound, h.filled, hd.trans hr.2.2.2⟩

/-- The stream position moves on by as many bits as there are fewer ahead (R48). -/
theorem Input.Leads.streamPos_add {cap : Nat} {inp inp' : Input} (hs : inp.Sound cap) (h : inp.Leads cap inp') :
    inp'.streamPos + inp'.ahead.length = inp.streamPos + inp.ahead.length := by
  rw [Input.streamPos_add_ahead h.sound, Input.streamPos_add_ahead hs]
  have := h.received
  omega

theorem Input.Leads.streamPos_le {cap : Nat} {inp inp' : Input} (hs : inp.Sound cap) (h : inp.Leads cap inp') :
    inp.streamPos ≤ inp'.streamPos := by
  have := h.streamPos_add hs
  have := h.suffix.length_le
  omega

/-- A request that brings nothing changes no bit (R61). -/
theorem Input.Leads.ofTxns {cap : Nat} {inp : Input} (txns : List SrcTxn) (hs : inp.Sound cap) (hf : inp.Filled) :
    inp.Leads cap { inp with src := { inp.src with txns := txns } } :=
  ⟨⟨hs.accBits, hs.accClear, hs.cursor, hs.capacity, hs.delivered, hs.received, hs.sourceEnd, hs.directLast⟩, hf,
    List.suffix_refl _, rfl, rfl, rfl, rfl⟩

/-! ## How a read ends -/

/-- A read that needs more bits than the source has ends as the source does (R155, R159, R61). -/
def InRes.ended {α : Type} (e : SrcEnd) (inp : Input) : InRes α :=
  match e with
  | .endOfData => .fatal .unexpectedEos .empty inp
  | .ioError p => .fatal .io (.payload p) inp
  | .silent => .wait inp

@[simp] theorem InRes.ended_andThen {α β : Type} (e : SrcEnd) (inp : Input) (k : α → Input → InRes β) :
    (InRes.ended e inp : InRes α).andThen k = .ended e inp := by
  cases e <;> rfl

theorem InRes.ended_ne_ok {α : Type} (e : SrcEnd) (inp inp' : Input) (a : α) : InRes.ended e inp ≠ .ok a inp' := by
  cases e <;> simp [InRes.ended]

/-- What a parser makes of the bits ahead. -/
inductive Parse (α : Type) where
  /-- A value, and the bits behind it. -/
  | value (a : α) (rest : List Bool)
  /-- The bits end inside the value. -/
  | short
  /-- The model stops. -/
  | stop (f : Fault)

/-- A parser goes on behind the value of another. -/
def Parse.andThen {α β : Type} (p : Parse α) (k : α → List Bool → Parse β) : Parse β :=
  match p with
  | .value a rest => k a rest
  | .short => .short
  | .stop f => .stop f

/-- A read from `inp` has ended as a parser of the bits ahead says, and has left an input layer in `Q` that goes on behind
it. -/
inductive InRes.Does {α : Type} (cap : Nat) (Q : Input → Prop) (inp : Input) : InRes α → Parse α → Prop where
  | value {a : α} {inp' : Input} (h : inp.Leads cap inp') (hQ : Q inp') : Does cap Q inp (.ok a inp') (.value a inp'.ahead)
  | short {inp' : Input} (h : inp.Leads cap inp') (hQ : Q inp') : Does cap Q inp (.ended inp.src.ending inp') .short
  | stop (f : Fault) : Does cap Q inp (.stop f) (.stop f)

/-- A reader from the input layers in `P`, leaving ones in `Q`: what it does is a function of the bits ahead alone (R154, R160),
and a value takes `n` bits or more. -/
def Reader {α : Type} (P Q : Input → Prop) (cap n : Nat) (op : Input → InRes α) : Prop :=
  ∃ p : List Bool → Parse α, (∀ inp, P inp → (op inp).Does cap Q inp (p inp.ahead)) ∧
    ∀ bits a rest, p bits = .value a rest → rest.length + n ≤ bits.length

/-- A reader of fields and symbols. -/
abbrev ReadyReader {α : Type} (cap n : Nat) (op : Input → InRes α) : Prop :=
  Reader (Input.Ready cap) (Input.Ready cap) cap n op

section
variable {α β : Type} {P P' Q Q' : Input → Prop} {cap n m : Nat} {op : Input → InRes α}

theorem InRes.Does.mono {inp : Input} {r : InRes α} {p : Parse α} (h : r.Does cap Q inp p) (hQ : ∀ inp', Q inp' → Q' inp') :
    r.Does cap Q' inp p := by
  cases h with
  | value hl h => exact .value hl (hQ _ h)
  | short hl h => exact .short hl (hQ _ h)
  | stop f => exact .stop f

theorem Reader.mono (h : Reader P Q cap n op) (hP : ∀ inp, P' inp → P inp) (hQ : ∀ inp, Q inp → Q' inp) (hm : m ≤ n) :
    Reader P' Q' cap m op := by
  obtain ⟨p, hp, hn⟩ := h
  exact ⟨p, fun inp hi => (hp inp (hP inp hi)).mono hQ, fun bits a rest he => le_trans (by omega) (hn bits a rest he)⟩

theorem Reader.atLeast (h : Reader P Q cap n op) (hm : m ≤ n) : Reader P Q cap m op :=
  h.mono (fun _ => id) (fun _ => id) hm

/-- Ending with a value reads nothing. -/
theorem Reader.pure (hQ : ∀ inp, Q inp → inp.Sound cap ∧ inp.Filled) (a : α) :
    Reader Q Q cap 0 (fun inp => .ok a inp) :=
  ⟨fun bits => .value a bits, fun inp h => .value (.refl (hQ inp h).1 (hQ inp h).2) h, by rintro _ _ _ ⟨⟩; exact le_refl _⟩

theorem ReadyReader.pure (a : α) : ReadyReader cap 0 (fun inp => .ok a inp) :=
  Reader.pure (fun _ h => ⟨h.2.1, h.2.2.1⟩) a

theorem Reader.stop (f : Fault) : Reader P Q cap n (fun _ => (.stop f : InRes α)) :=
  ⟨fun _ => .stop f, fun _ _ => .stop f, by rintro _ _ _ ⟨⟩⟩

/-- What one read does and what the next does behind it. -/
theorem InRes.Does.andThen {inp : Input} {r : InRes α} {p : Parse α} {k : α → Input → InRes β}
    {q : α → List Bool → Parse β} (h : r.Does cap Q inp p)
    (hk : ∀ a inp', Q inp' → (k a inp').Does cap Q inp' (q a inp'.ahead)) :
    (r.andThen k).Does cap Q inp (p.andThen q) := by
  cases h with
  | value hl hQ =>
    rename_i a inp₁
    have hnext := hk a inp₁ hQ
    simp only [Parse.andThen, InRes.andThen_of_ok]
    generalize k a inp₁ = r₂ at hnext ⊢
    generalize q a inp₁.ahead = p₂ at hnext ⊢
    cases hnext with
    | value hl₂ hQ₂ => exact .value (hl.trans hl₂) hQ₂
    | short hl₂ hQ₂ => rw [hl.ending]; exact .short (hl.trans hl₂) hQ₂
    | stop f => exact .stop f
  | short hl hQ => rw [InRes.ended_andThen]; exact .short hl hQ
  | stop f => exact .stop f

/-- A reader behind a reader is a reader. -/
theorem Reader.andThen {k : α → Input → InRes β} (h : Reader P Q cap n op) (hk : ∀ a, Reader Q Q cap m (k a)) :
    Reader P Q cap (n + m) fun inp => (op inp).andThen k := by
  obtain ⟨p, hp, hn⟩ := h
  choose q hq hm using hk
  refine ⟨fun bits => (p bits).andThen q, fun inp hi => (hp inp hi).andThen fun a inp' hQ => hq a inp' hQ, ?_⟩
  intro bits b rest he
  cases hpi : p bits with
  | value a mid =>
    have h₁ := hn bits a mid hpi
    have h₂ := hm a mid b rest (by simpa [Parse.andThen, hpi] using he)
    omega
  | short => simp [Parse.andThen, hpi] at he
  | stop f => simp [Parse.andThen, hpi] at he

theorem InRes.Does.of_value {inp : Input} {r : InRes α} {a : α} {rest : List Bool} (h : r.Does cap Q inp (.value a rest)) :
    ∃ inp', r = .ok a inp' ∧ inp'.ahead = rest ∧ inp.Leads cap inp' ∧ Q inp' := by
  cases h with
  | value hl hQ => exact ⟨_, rfl, rfl, hl, hQ⟩

theorem InRes.Does.of_short {inp : Input} {r : InRes α} (h : r.Does cap Q inp .short) :
    ∃ inp', r = .ended inp.src.ending inp' ∧ inp.Leads cap inp' ∧ Q inp' := by
  cases h with
  | short hl hQ => exact ⟨_, rfl, hl, hQ⟩

theorem InRes.Does.of_stop {inp : Input} {r : InRes α} {f : Fault} (h : r.Does cap Q inp (.stop f)) : r = .stop f := by
  cases h
  rfl

/-- What a reader's value leaves. -/
theorem Reader.ok (h : Reader P Q cap n op) {inp inp' : Input} {a : α} (hi : P inp) (hr : op inp = .ok a inp') :
    inp.Leads cap inp' ∧ Q inp' ∧ inp'.ahead.length + n ≤ inp.ahead.length := by
  obtain ⟨p, hp, hn⟩ := h
  have hdo := hp inp hi
  rw [hr] at hdo
  cases hpi : p inp.ahead with
  | value b rest =>
    rw [hpi] at hdo
    obtain ⟨inp₁, he, rfl, hl, hQ⟩ := hdo.of_value
    obtain ⟨rfl, rfl⟩ := InRes.ok.inj he
    exact ⟨hl, hQ, hn _ _ _ hpi⟩
  | short =>
    rw [hpi] at hdo
    obtain ⟨inp₁, he, -⟩ := hdo.of_short
    exact absurd he.symm (InRes.ended_ne_ok _ _ _ _)
  | stop f =>
    rw [hpi] at hdo
    exact absurd hdo.of_stop (by simp)

/-- A reader that ends without a value and does not stop has met the source's end. -/
theorem Reader.not_ok (h : Reader P Q cap n op) {inp inp' : Input} (hi : P inp)
    (hr : (∃ c i, op inp = .fatal c i inp') ∨ op inp = .wait inp') :
    inp.Leads cap inp' ∧ Q inp' ∧ op inp = .ended inp.src.ending inp' := by
  obtain ⟨p, hp, hn⟩ := h
  have hdo := hp inp hi
  cases hpi : p inp.ahead with
  | value b rest =>
    rw [hpi] at hdo
    obtain ⟨inp₁, he, -⟩ := hdo.of_value
    simp [he] at hr
  | short =>
    rw [hpi] at hdo
    obtain ⟨inp₁, he, hl, hQ⟩ := hdo.of_short
    have hsame : inp₁ = inp' := by
      rw [he] at hr
      cases he : inp.src.ending <;> simpa [he, InRes.ended] using hr
    exact hsame ▸ ⟨hl, hQ, he⟩
  | stop f =>
    rw [hpi] at hdo
    simp [hdo.of_stop] at hr

/-- A reader's fatal error is the source's (R155). -/
theorem Reader.fatal (h : Reader P Q cap n op) {inp inp' : Input} {c : Cause} {i : ErrInfo} (hi : P inp)
    (hr : op inp = .fatal c i inp') : inp.Leads cap inp' ∧ Q inp' ∧ c ≠ .noError := by
  obtain ⟨hl, hQ, hends⟩ := h.not_ok hi (.inl ⟨c, i, hr⟩)
  refine ⟨hl, hQ, ?_⟩
  rintro rfl
  rw [hr] at hends
  cases he : inp.src.ending <;> simp [he, InRes.ended] at hends

theorem Reader.wait (h : Reader P Q cap n op) {inp inp' : Input} (hi : P inp) (hr : op inp = .wait inp') :
    inp.Leads cap inp' ∧ Q inp' :=
  let ⟨hl, hQ, _⟩ := h.not_ok hi (.inr hr)
  ⟨hl, hQ⟩

end

end Sys2Proof.Machine
end

section
/-! Source requests, refills and ReadBits (R60, R151, R154, R155): the requests CORE makes and the bits a read takes. -/

namespace Sys2Proof.Machine

/-! ## Requests -/

theorem srcRequest_keeps (m : Nat) (src : Source) :
    (srcRequest m src).2.ending = src.ending ∧ (srcRequest m src).2.data = src.data ∧
      (srcRequest m src).2.txns = src.txns ++ [.request m] := by
  rcases srcRequest_cases m src with ⟨_, h⟩ | ⟨_, h, _⟩ <;> simp [h]

/-- Settles O8: an answer's size is in range where the source has bytes, and else its end is the answer. -/
theorem sourceAnswersInOrder : Obligations.SourceAnswersInOrder := by
  intro m src hm
  refine ⟨fun hrest => ?bytes, fun hrest => ?ending, srcRequest_keeps m src⟩
  case bytes =>
    obtain ⟨hone, hle, hlen⟩ := src.answerSize_bounds hm hrest
    rcases srcRequest_cases m src with ⟨_, h⟩ | ⟨h, _⟩
    · refine ⟨src.answerSize m, hone, hle, by rw [h], List.length_take_of_le hlen, ?_⟩
      rw [h]
      simp [Source.rest, List.drop_drop]
    · exact absurd h hrest
  case ending =>
    rcases srcRequest_cases m src with ⟨h, _⟩ | ⟨_, h, ha⟩
    · exact absurd hrest h
    · exact ⟨ha, by rw [h]; exact hrest⟩

/-- The source behind an answer of `k` bytes to a request for `m`. -/
def Source.answered (src : Source) (m k : Nat) : Source :=
  { src with txns := src.txns ++ [.request m], pos := src.pos + k, draws := src.draws.tail }

@[simp] theorem Source.answered_rest (src : Source) (m k : Nat) : (src.answered m k).rest = src.rest.drop k := by
  simp [Source.answered, Source.rest, List.drop_drop]

/-- A request that is answered with bytes (R60). -/
theorem Input.request_of_rest {inp : Input} {m : Nat} (hm : 1 ≤ m) (hrest : inp.src.rest ≠ []) :
    ∃ k, 1 ≤ k ∧ k ≤ m ∧ k ≤ inp.src.rest.length ∧
      inp.request m = (.data (inp.src.rest.take k), { inp with recv := inp.recv + k, src := inp.src.answered m k }) := by
  obtain ⟨hone, hle, hlen⟩ := inp.src.answerSize_bounds hm hrest
  rcases inp.request_cases m with ⟨_, bs, rfl, hr⟩ | ⟨h, _⟩
  · refine ⟨inp.src.answerSize m, hone, hle, hlen, ?_⟩
    rw [hr, List.length_take_of_le hlen]
    rfl
  · exact absurd h hrest

/-- The source behind a request that brings nothing. -/
def Input.askedInVain (inp : Input) (m : Nat) : Input :=
  { inp with src := { inp.src with txns := inp.src.txns ++ [.request m] } }

/-- A request past the source's last byte (R60, R61). -/
theorem Input.request_of_rest_nil {inp : Input} {m : Nat} (hrest : inp.src.rest = []) :
    inp.request m = ((match inp.src.ending with
      | .endOfData => .endOfData
      | .ioError p => .ioError p
      | .silent => .silent), inp.askedInVain m) := by
  rcases inp.request_cases m with ⟨h, _⟩ | ⟨_, h⟩
  · exact absurd hrest h
  · rw [h]
    cases inp.src.ending <;> rfl

theorem Input.Leads.askedInVain {cap : Nat} {inp : Input} (m : Nat) (hs : inp.Sound cap) (hf : inp.Filled) :
    inp.Leads cap (inp.askedInVain m) :=
  .ofTxns _ hs hf

/-! ## Refills and the next input byte -/

/-- The input layer behind a refill of `k` bytes (R155). -/
def Input.refilled (inp : Input) (cap k : Nat) : Input :=
  { inp with recv := inp.recv + k, src := inp.src.answered cap k, inbuf := inp.src.rest.take k, inFill := k, inPos := 0 }

/-- A refill that the source answers with bytes changes no bit ahead (R155). -/
theorem refillInput_of_rest {cap : Nat} {inp : Input} (h : inp.Ready cap) (hempty : inp.inPos = inp.inFill)
    (hrest : inp.src.rest ≠ []) :
    ∃ inp', refillInput cap inp = .ok () inp' ∧ inp.Leads cap inp' ∧ inp'.Ready cap ∧ inp'.ahead = inp.ahead ∧ inp'.inPos < inp'.inFill ∧
      inp'.accN = inp.accN ∧ inp'.src.txns = inp.src.txns ++ [.request cap] := by
  have hready := h
  obtain ⟨hcap, hs, hf, hd⟩ := h
  obtain ⟨k, hone, hle, hlen, hr⟩ := inp.request_of_rest hcap hrest
  have htake : (inp.src.rest.take k).length = k := List.length_take_of_le hlen
  have hahead : streamBits (bufSlice (inp.src.rest.take k) 0 k) ++ streamBits (inp.src.rest.drop k) =
      streamBits inp.src.rest := by
    rw [bufSlice_eq_take_drop (by omega), List.drop_zero, List.take_of_length_le (by omega), ← streamBits_append,
      List.take_append_drop]
  have hdel := hs.delivered
  have hrec := hs.received
  have hend := hs.sourceEnd
  rw [Source.rest_length] at hlen
  have hsame : (inp.refilled cap k).ahead = inp.ahead := by
    simp [Input.refilled, Input.ahead_eq, Input.buffered, hd, hempty, hahead]
  have hleads : inp.Leads cap (inp.refilled cap k) := by
    refine ⟨⟨hs.accBits, hs.accClear, Nat.zero_le _, hle, ?_, ?_, ?_, fun hne => absurd hd hne⟩, ?_, ?_, ?_, ?_, rfl, rfl⟩
    · simp only [Input.refilled, hd, List.length_nil] at hdel ⊢
      omega
    · simp only [Input.refilled, Source.answered]
      omega
    · simp only [Input.refilled, Source.answered]
      omega
    · simp only [Input.Filled, Input.refilled, htake, le_refl]
    · rw [hsame]
    · simp only [Input.refilled, Source.answered_rest, List.length_drop, Source.rest_length]
      omega
    · simp only [Input.origin, Input.refilled, Source.answered]
      omega
  exact ⟨_, by simp only [refillInput, hr, htake, Input.refilled], hleads, hleads.ready hready rfl, hsame, hone, rfl, rfl⟩

/-- A refill past the source's last byte ends as the source does (R155). -/
theorem refillInput_of_rest_nil {cap : Nat} {inp : Input} (hrest : inp.src.rest = []) :
    refillInput cap inp = .ended inp.src.ending (inp.askedInVain cap) := by
  rw [refillInput, Input.request_of_rest_nil hrest]
  cases inp.src.ending <;> rfl

/-- The byte at INBUF's read cursor moves into ACC (R151, R154). -/
def Input.moveByte (inp : Input) : Input := pushByte (bufGet inp.inbuf inp.inPos) { inp with inPos := inp.inPos + 1 }

theorem Input.moveByte_ahead {cap : Nat} {inp : Input} (hs : inp.Sound cap) (hbyte : inp.inPos < inp.inFill)
    (hroom : inp.accN ≤ 55) : inp.moveByte.ahead = inp.ahead := by
  have hbits : bitsLsbFirst (inp.accN + 8) (pushByte (bufGet inp.inbuf inp.inPos) inp).acc.toNat = _ :=
    pushByte_bits hs.accClear (by omega)
  have hbuf : inp.buffered = bufGet inp.inbuf inp.inPos :: bufSlice inp.inbuf (inp.inPos + 1) (inp.inFill - (inp.inPos + 1)) := by
    rw [← bufSlice_succ, Input.buffered]
    congr 1
    omega
  have hmoved : inp.moveByte.ahead = (bitsLsbFirst inp.accN inp.acc.toNat ++ byteBits (bufGet inp.inbuf inp.inPos)) ++
      (streamBits (bufSlice inp.inbuf (inp.inPos + 1) (inp.inFill - (inp.inPos + 1))) ++
        (streamBits inp.direct ++ streamBits inp.src.rest)) := by
    rw [Input.ahead_eq, ← hbits]
    rfl
  rw [hmoved, Input.ahead_eq, hbuf, streamBits_cons]
  simp only [List.append_assoc]

theorem Input.Leads.moveByte {cap : Nat} {inp : Input} (h : inp.Ready cap) (hbyte : inp.inPos < inp.inFill)
    (hroom : inp.accN ≤ 55) : inp.Leads cap inp.moveByte := by
  obtain ⟨-, hs, hf, hd⟩ := h
  have hdel := hs.delivered
  refine ⟨⟨?_, ?_, hbyte, hs.capacity, ?_, hs.received, hs.sourceEnd, fun hne => absurd hd hne⟩, hf, ?_, rfl, rfl, rfl, rfl⟩
  · simp only [Input.moveByte, pushByte]
    omega
  · have hnum := pushByte_toNat (b := bufGet inp.inbuf inp.inPos) hs.accClear (by omega)
    have hb := (bufGet inp.inbuf inp.inPos).isLt
    have hclear := hs.accClear
    calc inp.moveByte.acc.toNat = inp.acc.toNat + 2 ^ inp.accN * (bufGet inp.inbuf inp.inPos).toNat := hnum
      _ < 2 ^ inp.accN * (1 + (bufGet inp.inbuf inp.inPos).toNat) := by rw [Nat.mul_add, Nat.mul_one]; omega
      _ ≤ 2 ^ inp.accN * 2 ^ 8 := Nat.mul_le_mul_left _ (by omega)
      _ = 2 ^ (inp.accN + 8) := (Nat.pow_add 2 _ _).symm
  · simp only [Input.moveByte, pushByte, hd, List.length_nil] at hdel ⊢
    omega
  · rw [Input.moveByte_ahead hs hbyte hroom]

/-! ## ReadBits' loop -/

/-- The next input byte enters ACC: the body of ReadBits' loop (R151). -/
def fetchByte (cap : Nat) (inp : Input) : InRes Unit :=
  (nextInputByte cap inp).andThen fun b inp' => .ok () (pushByte b inp')

theorem fillAcc_succ {cap n fuel : Nat} {inp : Input} (h : inp.accN < n) :
    fillAcc cap n (fuel + 1) inp = (fetchByte cap inp).andThen fun _ inp' => fillAcc cap n fuel inp' := by
  rw [fillAcc, if_pos h, fetchByte]
  cases nextInputByte cap inp <;> rfl

theorem fetchByte_of_buffered {cap : Nat} {inp : Input} (h : inp.inPos ≠ inp.inFill) :
    fetchByte cap inp = .ok () inp.moveByte := by
  rw [fetchByte, nextInputByte_buffered cap h]
  rfl

theorem fetchByte_of_empty {cap : Nat} {inp : Input} (h : inp.inPos = inp.inFill) :
    fetchByte cap inp = (refillInput cap inp).andThen fun _ inp' => .ok () inp'.moveByte := by
  rw [fetchByte, nextInputByte, if_pos h]
  cases refillInput cap inp <;> rfl

/-- What the loop's body does: a byte of INBUF moves into ACC, or one of a refill, or the input ends (R151, R154, R155). -/
theorem fetchByte_cases {cap : Nat} {inp : Input} (h : inp.Ready cap) (hroom : inp.accN ≤ 55) :
    (∃ inp', fetchByte cap inp = .ok () inp' ∧ inp.Leads cap inp' ∧ inp'.Ready cap ∧ inp'.ahead = inp.ahead ∧ inp'.accN = inp.accN + 8 ∧
      ((inp'.src = inp.src ∧ inp'.accN + 8 * (inp'.inFill - inp'.inPos) = inp.accN + 8 * (inp.inFill - inp.inPos)) ∨
        (inp.inPos = inp.inFill ∧ inp'.src.txns = inp.src.txns ++ [.request cap]))) ∨
      (inp.ahead.length = inp.accN ∧ fetchByte cap inp = .ended inp.src.ending (inp.askedInVain cap)) := by
  by_cases hbuf : inp.inPos = inp.inFill
  · by_cases hrest : inp.src.rest = []
    · refine .inr ⟨by simp [Input.ahead_length, hbuf, hrest, h.2.2.2], ?_⟩
      rw [fetchByte_of_empty hbuf, refillInput_of_rest_nil hrest, InRes.ended_andThen]
    · obtain ⟨inp₁, hr, hl, hready, ha, hbyte, hn, htxns⟩ := refillInput_of_rest h hbuf hrest
      have hroom₁ : inp₁.accN ≤ 55 := by omega
      have hmove : inp₁.Leads cap inp₁.moveByte := .moveByte hready hbyte hroom₁
      refine .inl ⟨inp₁.moveByte, by rw [fetchByte_of_empty hbuf, hr]; rfl, hl.trans hmove, hmove.ready hready rfl, ?_,
        by rw [← hn]; rfl, .inr ⟨hbuf, htxns⟩⟩
      rw [Input.moveByte_ahead hl.sound hbyte hroom₁, ha]
  · have hcur := h.2.1.cursor
    have hbyte : inp.inPos < inp.inFill := by omega
    have hmove : inp.Leads cap inp.moveByte := .moveByte h hbyte hroom
    refine .inl ⟨inp.moveByte, fetchByte_of_buffered hbuf, hmove, hmove.ready h rfl, Input.moveByte_ahead h.2.1 hbyte hroom, rfl,
      .inl ⟨rfl, ?_⟩⟩
    simp only [Input.moveByte, pushByte]
    omega

/-- ReadBits' loop changes no bit ahead; it ends with `n` bits in ACC, or as the source does where the bits ahead are fewer. A
request is made only where ACC and INBUF hold fewer (R62, R151, R155). -/
theorem fillAcc_cases {cap n fuel : Nat} {inp : Input} (h : inp.Ready cap) (hn : n ≤ 56) (hfuel : n ≤ inp.accN + 8 * fuel) :
    (∃ inp' k, fillAcc cap n fuel inp = .ok () inp' ∧ inp.Leads cap inp' ∧ inp'.Ready cap ∧ inp'.ahead = inp.ahead ∧ n ≤ inp'.accN ∧
      inp'.src.txns = inp.src.txns ++ List.replicate k (.request cap) ∧
      (k = 0 → inp'.src = inp.src ∧ n ≤ inp.accN + 8 * (inp.inFill - inp.inPos)) ∧
      (1 ≤ k → inp.accN + 8 * (inp.inFill - inp.inPos) < n)) ∨
      (inp.ahead.length < n ∧ ∃ inp', fillAcc cap n fuel inp = .ended inp.src.ending inp' ∧ inp.Leads cap inp' ∧ inp'.Ready cap) := by
  induction fuel generalizing inp with
  | zero =>
    exact .inl ⟨inp, 0, rfl, .refl h.2.1 h.2.2.1, h, rfl, by omega, by simp, fun _ => ⟨rfl, by omega⟩, by omega⟩
  | succ fuel ih =>
    by_cases hless : inp.accN < n
    · rw [fillAcc_succ hless]
      rcases fetchByte_cases h (by omega) with ⟨inp₁, hr, hl, hready, ha, hacc, hsrc⟩ | ⟨hlen, hr⟩
      · rw [hr, InRes.andThen_of_ok]
        rcases ih hready (by omega) with
          ⟨inp₂, k, hr₂, hl₂, hready₂, ha₂, hn₂, htxns, hzero, hpos⟩ | ⟨hlen, inp₂, hr₂, hl₂, hready₂⟩
        · left
          rcases hsrc with ⟨hsame, hheld⟩ | ⟨hempty, hasked⟩
          · rw [hheld] at hzero hpos
            rw [hsame] at htxns hzero
            exact ⟨inp₂, k, hr₂, hl.trans hl₂, hready₂, ha₂.trans ha, hn₂, htxns, hzero, hpos⟩
          · refine ⟨inp₂, 1 + k, hr₂, hl.trans hl₂, hready₂, ha₂.trans ha, hn₂, ?_, by omega, fun _ => by omega⟩
            rw [htxns, hasked, List.replicate_add, List.append_assoc]
            rfl
        · exact .inr ⟨by rwa [ha] at hlen, inp₂, by rw [hr₂, hl.ending], hl.trans hl₂, hready₂⟩
      · have hvain : inp.Leads cap (inp.askedInVain cap) := .askedInVain cap h.2.1 h.2.2.1
        exact .inr ⟨by omega, _, by rw [hr, InRes.ended_andThen], hvain, hvain.ready h rfl⟩
    · exact .inl ⟨inp, 0, fillAcc_enough cap (by omega), .refl h.2.1 h.2.2.1, h, rfl, by omega, by simp,
        fun _ => ⟨rfl, by omega⟩, by omega⟩

/-! ## Taking bits from ACC -/

/-- The input layer behind `n` bits of ACC. -/
def Input.dropBits (inp : Input) (n : Nat) : Input := { inp with acc := inp.acc >>> n, accN := inp.accN - n }

theorem Input.dropBits_ahead {inp : Input} {n : Nat} (hn : n ≤ inp.accN) : (inp.dropBits n).ahead = inp.ahead.drop n := by
  have hsplit := bitsLsbFirst_shiftRight (acc := inp.acc) hn
  rw [Input.ahead_eq, Input.ahead_eq, hsplit, List.append_assoc, List.drop_append_of_le_length (by simp), List.drop_eq_nil_of_le (by simp)]
  rfl

theorem Input.Leads.dropBits {cap : Nat} {inp : Input} {n : Nat} (hs : inp.Sound cap) (hf : inp.Filled) (hn : n ≤ inp.accN) :
    inp.Leads cap (inp.dropBits n) := by
  refine ⟨⟨?_, shiftRight_toNat_lt hs.accClear hn, hs.cursor, hs.capacity, ?_, hs.received, hs.sourceEnd, fun hne => ?_⟩, hf,
    ?_, rfl, rfl, rfl, rfl⟩
  · have := hs.accBits
    simp only [Input.dropBits]
    omega
  · have := hs.delivered
    simp only [Input.dropBits]
    omega
  · obtain ⟨hz, hpos⟩ := hs.directLast hne
    exact ⟨by simp [Input.dropBits, hz], hpos⟩
  · rw [Input.dropBits_ahead hn]
    exact List.drop_suffix _ _

theorem takeBits_eq {inp : Input} {n : Nat} (hn : n ≤ inp.accN) :
    takeBits n inp = .ok (packBits (inp.ahead.take n)) (inp.dropBits n) := by
  rw [Input.ahead_eq, List.take_append_of_le_length (by simpa using hn), ← Nat.add_sub_cancel' hn, bitsLsbFirst_add,
    List.take_append_of_le_length (by simp), List.take_of_length_le (by simp), packBits_bitsLsbFirst]
  rfl

/-! ## ReadBits -/

/-- The parser of a field of `n` bits. -/
def Parse.field (n : Nat) (bits : List Bool) : Parse Nat :=
  if n ≤ bits.length then .value (packBits (bits.take n)) (bits.drop n) else .short

/-- ReadBits takes the next bits ahead, or ends as the source does (R151, R155). -/
theorem readBits_does {cap n : Nat} {inp : Input} (h : inp.Ready cap) (hn : n ≤ 16) :
    (readBits cap n inp).Does cap (Input.Ready cap) inp (.field n inp.ahead) := by
  rcases fillAcc_cases (n := n) (fuel := n) h (by omega) (by omega) with
    ⟨inp₁, k, hr, hl, hready, ha, hacc, -⟩ | ⟨hlen, inp₁, hr, hl, hready⟩
  · have hlen : n ≤ inp.ahead.length := by
      rw [← ha, Input.ahead_length]
      omega
    rw [readBits, hr, InRes.andThen_of_ok, takeBits_eq hacc, Parse.field, if_pos hlen, ← ha, ← Input.dropBits_ahead hacc]
    have hdrop : inp₁.Leads cap (inp₁.dropBits n) := .dropBits hl.sound hl.filled hacc
    exact .value (hl.trans hdrop) (hdrop.ready hready rfl)
  · rw [readBits, hr, InRes.ended_andThen, Parse.field, if_neg (by omega)]
    exact .short hl hready

theorem readBits_reader (cap : Nat) {n : Nat} (hn : n ≤ 16) : ReadyReader cap n (readBits cap n) := by
  refine ⟨.field n, fun inp h => readBits_does h hn, fun bits v rest he => ?_⟩
  unfold Parse.field at he
  split at he
  · obtain ⟨-, rfl⟩ := Parse.value.inj he
    rw [List.length_drop]
    omega
  · simp at he

theorem readBits_lt {cap n v : Nat} {inp inp' : Input} (h : readBits cap n inp = .ok v inp') : v < 2 ^ n := by
  obtain ⟨_, inp₁, -, ht⟩ := InRes.andThen_eq_ok.mp h
  obtain ⟨rfl, -⟩ := InRes.ok.inj ht
  exact Nat.mod_lt _ (Nat.two_pow_pos n)

/-- Settles O9: the loop makes a request only where ACC and INBUF hold too few bits, and taking bits from ACC makes none. -/
theorem bufferedBitsNeedNoRequest : Obligations.BufferedBitsNeedNoRequest := by
  intro cap n v inp inp' h hn hr
  rcases fillAcc_cases (n := n) (fuel := n) h (by omega) (by omega) with
    ⟨inp₁, k, hfill, -, -, -, hacc, htxns, hzero, hpos⟩ | ⟨-, inp₁, hfill, -⟩
  · rw [readBits, hfill, InRes.andThen_of_ok, takeBits_eq hacc] at hr
    obtain ⟨-, rfl⟩ := InRes.ok.inj hr
    refine ⟨fun hheld => (hzero ?_).1, fun hless => ⟨k, ?_, htxns⟩⟩
    · by_contra hk
      have := hpos (by omega)
      omega
    · by_contra hk
      have := (hzero (by omega)).2
      omega
  · rw [readBits, hfill, InRes.ended_andThen] at hr
    exact absurd hr (InRes.ended_ne_ok _ _ _ _)

end Sys2Proof.Machine
end

section
/-! The values of elements and their operands as readers of the stream (R103, R110, R124, R190, R217, R221). -/

namespace Sys2Proof.Machine

/-! ## Fields -/

section
variable (cap : Nat)

theorem readBlockHeader_reader : ReadyReader cap 1 (readBlockHeader cap) :=
  ((readBits_reader cap (by decide)).andThen fun _ =>
    (readBits_reader cap (by decide)).andThen fun _ => ReadyReader.pure _).atLeast (by decide)

theorem readStoredHeader_reader : ReadyReader cap 1 (readStoredHeader cap) :=
  ((readBits_reader cap (by decide)).andThen fun _ =>
    (readBits_reader cap (by decide)).andThen fun _ => ReadyReader.pure _).atLeast (by decide)

theorem readDynamicHeader_reader : ReadyReader cap 1 (readDynamicHeader cap) :=
  ((readBits_reader cap (by decide)).andThen fun _ => (readBits_reader cap (by decide)).andThen fun _ =>
    (readBits_reader cap (by decide)).andThen fun _ => ReadyReader.pure _).atLeast (by decide)

theorem readOperand_reader {o : Operand} (h : o.extra ≤ 16) : ReadyReader cap 0 (readOperand cap o) :=
  ((readBits_reader cap h).andThen fun _ => ReadyReader.pure _).atLeast (Nat.zero_le _)

theorem readClLengths_reader (order cl : List Nat) : ReadyReader cap 0 (readClLengths cap order cl) := by
  induction order generalizing cl with
  | nil => exact ReadyReader.pure cl
  | cons s order ih =>
    exact ((readBits_reader cap (by decide)).andThen fun v => ih (cl.set s v)).atLeast (Nat.zero_le _)

/-! ## Symbols -/

/-- The walk's next move, behind one bit (R190). -/
theorem walkTree_reader (t : Tree) (fuel k : Nat) : ReadyReader cap 1 (walkTree cap t fuel k) := by
  induction fuel generalizing k with
  | zero => exact .stop _
  | succ fuel ih =>
    refine (readBits_reader cap (n := 1) (by decide)).andThen (m := 0) fun b => ?_
    cases t.child k (b == 1) with
    | none => exact .stop _
    | some slot =>
      cases slot with
      | opn => exact .stop _
      | leaf s => exact ReadyReader.pure s
      | dummy => exact ReadyReader.pure dummySym
      | node k' => exact (ih k').atLeast (Nat.zero_le _)

theorem decodeSym_reader (t : Tree) : ReadyReader cap 1 (decodeSym cap t) := walkTree_reader cap t _ 0

end

/-! ## The byte of a stored-byte step (R157, R158, R217) -/

/-- An input layer from which a stored-byte step reads, at most `m` bytes of it waiting in a direct answer. -/
structure Input.StoredReady (cap m : Nat) (inp : Input) : Prop where
  capacity : 1 ≤ cap
  sound : inp.Sound cap
  filled : inp.Filled
  aligned : inp.accN % 8 = 0
  fits : inp.direct.length ≤ m

/-- What a stored-byte step's read leaves: at a byte boundary, with fewer bytes waiting than `m`. -/
structure Input.StoredLeft (cap m : Nat) (inp : Input) : Prop where
  sound : inp.Sound cap
  filled : inp.Filled
  aligned : inp.accN % 8 = 0
  fits : inp.direct.length < m

/-- The parser of a byte. -/
def Parse.byte (bits : List Bool) : Parse Byte :=
  if 8 ≤ bits.length then .value (BitVec.ofNat 8 (packBits (bits.take 8))) (bits.drop 8) else .short

theorem Parse.byte_append (b : Byte) (bits : List Bool) : Parse.byte (byteBits b ++ bits) = .value b bits := by
  have hb : packBits (byteBits b) = b.toNat := by rw [byteBits, packBits_bitsLsbFirst, Nat.mod_eq_of_lt b.isLt]
  rw [Parse.byte, if_pos (by simp), List.take_left' (byteBits_length b), List.drop_left' (byteBits_length b), hb,
    BitVec.ofNat_toNat, BitVec.setWidth_eq]

theorem InRes.Does.byte {cap : Nat} {Q : Input → Prop} {inp inp' : Input} {b : Byte} (ha : inp.ahead = byteBits b ++ inp'.ahead)
    (h : inp.Leads cap inp') (hQ : Q inp') : (InRes.ok b inp').Does cap Q inp (.byte inp.ahead) := by
  rw [ha, Parse.byte_append]
  exact .value h hQ

/-- Where ACC holds a whole byte it is the next one (R157). -/
theorem Input.ahead_of_accByte {inp : Input} (h : 8 ≤ inp.accN) :
    inp.ahead = byteBits (inp.acc.setWidth 8) ++ (inp.dropBits 8).ahead := by
  have hbyte : byteBits (inp.acc.setWidth 8) = bitsLsbFirst 8 inp.acc.toNat := by
    rw [byteBits, BitVec.toNat_setWidth, bitsLsbFirst_mod]
  rw [Input.dropBits_ahead h, hbyte]
  conv_lhs => rw [← List.take_append_drop 8 inp.ahead]
  congr 1
  rw [Input.ahead_eq, List.take_append_of_le_length (by simpa using h), ← Nat.add_sub_cancel' h, bitsLsbFirst_add,
    List.take_append_of_le_length (by simp), List.take_of_length_le (by simp)]

/-- Where ACC is empty the byte at INBUF's read cursor is the next one (R157). -/
theorem Input.ahead_of_bufferByte {inp : Input} (hacc : inp.accN = 0) (h : inp.inPos < inp.inFill) :
    inp.ahead = byteBits (bufGet inp.inbuf inp.inPos) ++ { inp with inPos := inp.inPos + 1 }.ahead := by
  have hlen : inp.inFill - inp.inPos = (inp.inFill - (inp.inPos + 1)) + 1 := by omega
  simp [Input.ahead_eq, Input.buffered, hacc, hlen, bufSlice_succ, bitsLsbFirst]

/-- A direct answer's next byte (R158). -/
theorem Input.ahead_of_directByte {inp : Input} {b : Byte} {bs : List Byte} (hs : inp.accN = 0 ∧ inp.inPos = inp.inFill)
    (h : inp.direct = b :: bs) : inp.ahead = byteBits b ++ { inp with direct := bs }.ahead := by
  simp [Input.ahead_eq, Input.buffered, hs.1, hs.2, h, bitsLsbFirst]

/-- A direct read takes the next byte, or ends as the source does (R158). -/
theorem directRead_does {cap m : Nat} {inp : Input} (h : inp.StoredReady cap m) (hm : 1 ≤ m) (hd : inp.direct = [])
    (hempty : inp.accN = 0 ∧ inp.inPos = inp.inFill) :
    (directRead m inp).Does cap (Input.StoredLeft cap m) inp (.byte inp.ahead) := by
  obtain ⟨-, hs, hf, halign, -⟩ := h
  by_cases hrest : inp.src.rest = []
  · have hvain : inp.Leads cap (inp.askedInVain m) := .askedInVain m hs hf
    have hends : directRead m inp = .ended inp.src.ending (inp.askedInVain m) := by
      rw [directRead, Input.request_of_rest_nil hrest]
      cases inp.src.ending <;> rfl
    have hshort : Parse.byte inp.ahead = .short := by
      rw [Parse.byte, if_neg (by simp [Input.ahead_length, hempty, hd, hrest])]
    rw [hends, hshort]
    exact .short hvain ⟨hvain.sound, hvain.filled, halign, by simpa [Input.askedInVain, hd] using Nat.lt_of_succ_le hm⟩
  · obtain ⟨k, hone, hle, hlen, hr⟩ := inp.request_of_rest hm hrest
    obtain ⟨b, bs, hbytes⟩ : ∃ b bs, inp.src.rest.take k = b :: bs := by
      cases htake : inp.src.rest.take k with
      | nil => simp [hrest] at htake; omega
      | cons b bs => exact ⟨b, bs, rfl⟩
    have hk : k = bs.length + 1 := by
      have := congrArg List.length hbytes
      simpa [List.length_take_of_le hlen] using this
    let inp' : Input := { inp with recv := inp.recv + k, src := inp.src.answered m k, direct := bs }
    have hok : directRead m inp = .ok b inp' := by simp only [directRead, hr, hbytes, inp']
    have hahead : inp.ahead = byteBits b ++ inp'.ahead := by
      have hsplit : streamBits inp.src.rest = streamBits (b :: bs) ++ streamBits (inp.src.rest.drop k) := by
        rw [← hbytes, ← streamBits_append, List.take_append_drop]
      simp [Input.ahead_eq, Input.buffered, hempty, hd, hsplit, inp', bitsLsbFirst]
    have hdel := hs.delivered
    have hrec := hs.received
    have hend := hs.sourceEnd
    rw [Source.rest_length] at hlen
    have hsound : inp'.Sound cap := by
      refine ⟨hs.accBits, hs.accClear, hs.cursor, hs.capacity, ?_, ?_, ?_, fun _ => hempty⟩
      · simp only [inp', hd, List.length_nil] at hdel ⊢
        omega
      · simp only [inp', Source.answered]
        omega
      · simp only [inp', Source.answered]
        omega
    rw [hok]
    refine .byte hahead ⟨hsound, hf, hahead ▸ List.suffix_append _ _, ?_, ?_, rfl, rfl⟩ ⟨hsound, hf, halign, ?_⟩
    · simp only [inp', Source.answered_rest, List.length_drop, Source.rest_length]
      omega
    · simp only [inp', Input.origin, Source.answered]
      omega
    · simp only [inp']
      omega

/-- A byte that ACC or INBUF holds (R157). -/
theorem readAlignedByte_does {cap m : Nat} {inp : Input} (h : inp.StoredReady cap m) (hm : 1 ≤ m) (hd : inp.direct = [])
    (hheld : ¬(inp.accN = 0 ∧ inp.inPos = inp.inFill)) :
    (readAlignedByte cap inp).Does cap (Input.StoredLeft cap m) inp (.byte inp.ahead) := by
  obtain ⟨-, hs, hf, halign, -⟩ := h
  unfold readAlignedByte
  split
  · rename_i hacc
    have hdrop : inp.Leads cap (inp.dropBits 8) := .dropBits hs hf hacc
    refine .byte (Input.ahead_of_accByte hacc) hdrop ⟨hdrop.sound, hf, ?_, by simpa [Input.dropBits, hd] using Nat.lt_of_succ_le hm⟩
    change (inp.accN - 8) % 8 = 0
    omega
  · have hcur := hs.cursor
    have hacc : inp.accN = 0 := by omega
    have hbyte : inp.inPos < inp.inFill := by omega
    have hahead := Input.ahead_of_bufferByte hacc hbyte
    rw [nextInputByte_buffered cap (by omega)]
    have hsound : ({ inp with inPos := inp.inPos + 1 } : Input).Sound cap := by
      have hdel := hs.delivered
      refine ⟨hs.accBits, hs.accClear, hbyte, hs.capacity, ?_, hs.received, hs.sourceEnd, fun hne => absurd hd hne⟩
      dsimp only
      omega
    exact .byte hahead ⟨hsound, hf, hahead ▸ List.suffix_append _ _, rfl, rfl, rfl, rfl⟩
      ⟨hsound, hf, halign, by simpa [hd] using Nat.lt_of_succ_le hm⟩

/-- A stored-byte step's byte is the next byte ahead, wherever it comes from (R157, R158, R217). -/
theorem readStoredByte_does {cap m : Nat} {inp : Input} (h : inp.StoredReady cap m) (hm : 1 ≤ m) :
    (readStoredByte cap m inp).Does cap (Input.StoredLeft cap m) inp (.byte inp.ahead) := by
  cases hd : inp.direct with
  | cons b bs =>
    have hempty := h.sound.directLast (by simp [hd])
    have hahead := Input.ahead_of_directByte hempty hd
    have hsound : ({ inp with direct := bs } : Input).Sound cap := by
      have hdel := h.sound.delivered
      refine ⟨h.sound.accBits, h.sound.accClear, h.sound.cursor, h.sound.capacity, ?_, h.sound.received, h.sound.sourceEnd,
        fun _ => hempty⟩
      simp only [hd, List.length_cons] at hdel ⊢
      omega
    have hfits := h.fits
    simp only [readStoredByte, hd]
    refine .byte hahead ⟨hsound, h.filled, hahead ▸ List.suffix_append _ _, rfl, rfl, rfl, rfl⟩ ⟨hsound, h.filled, h.aligned, ?_⟩
    simpa [hd] using hfits
  | nil =>
    simp only [readStoredByte, hd]
    split
    · exact directRead_does h hm hd ‹_›
    · exact readAlignedByte_does h hm hd ‹_›

theorem readStoredByte_reader (cap : Nat) {m : Nat} (hm : 1 ≤ m) :
    Reader (Input.StoredReady cap m) (Input.StoredLeft cap m) cap 8 (readStoredByte cap m) := by
  refine ⟨.byte, fun inp h => readStoredByte_does h hm, fun bits v rest he => ?_⟩
  unfold Parse.byte at he
  split at he
  · obtain ⟨-, rfl⟩ := Parse.value.inj he
    rw [List.length_drop]
    omega
  · simp at he

/-- A stored-byte step waits only where no byte of a direct answer is left. -/
theorem readStoredByte_wait {cap m : Nat} {inp inp' : Input} (h : inp.StoredReady cap m) (hm : 1 ≤ m)
    (hr : readStoredByte cap m inp = .wait inp') : inp'.direct = [] := by
  have hshort : inp.ahead.length < 8 := by
    by_contra hlen
    have hdo := readStoredByte_does h hm
    rw [Parse.byte, if_pos (by omega)] at hdo
    obtain ⟨inp₁, hok, -⟩ := hdo.of_value
    simp [hr] at hok
  have hlen := ((readStoredByte_reader cap hm).wait h hr).1.suffix.length_le
  rw [Input.ahead_length] at hlen
  exact List.length_eq_zero_iff.mp (by omega)

/-! ## LEN and NLEN keep the byte alignment (R212) -/

theorem readBits_ok {cap n v : Nat} {inp inp' : Input} (h : inp.Ready cap) (hn : n ≤ 16) (hr : readBits cap n inp = .ok v inp') :
    inp'.Ready cap ∧ inp'.ahead.length + n = inp.ahead.length := by
  have hdo := readBits_does h hn
  rw [hr] at hdo
  by_cases hlen : n ≤ inp.ahead.length
  · rw [Parse.field, if_pos hlen] at hdo
    obtain ⟨inp₁, he, ha, -, hready⟩ := hdo.of_value
    obtain ⟨-, rfl⟩ := InRes.ok.inj he
    rw [ha, List.length_drop]
    exact ⟨hready, Nat.sub_add_cancel hlen⟩
  · rw [Parse.field, if_neg hlen] at hdo
    obtain ⟨inp₁, he, -⟩ := hdo.of_short
    exact absurd he.symm (InRes.ended_ne_ok _ _ _ _)

theorem readStoredHeader_aligned {cap v : Nat} {inp inp' : Input} (h : inp.Ready cap) (halign : inp.accN % 8 = 0)
    (hr : readStoredHeader cap inp = .ok v inp') : inp'.accN % 8 = 0 := by
  obtain ⟨len, inp₁, hlen, hr₁⟩ := InRes.andThen_eq_ok.mp hr
  obtain ⟨nlen, inp₂, hnlen, hr₂⟩ := InRes.andThen_eq_ok.mp hr₁
  obtain ⟨-, rfl⟩ := InRes.ok.inj hr₂
  obtain ⟨hready₁, ha₁⟩ := readBits_ok h (by decide) hlen
  obtain ⟨-, ha₂⟩ := readBits_ok hready₁ (by decide) hnlen
  simp only [Input.ahead_length] at ha₁ ha₂
  omega

/-! ## The operands' ranges -/

theorem readOperand_range {cap v : Nat} {o : Operand} {inp inp' : Input} (h : readOperand cap o inp = .ok v inp') :
    o.base ≤ v ∧ v < o.base + 2 ^ o.extra := by
  obtain ⟨x, inp₁, hx, hv⟩ := InRes.andThen_eq_ok.mp h
  obtain ⟨rfl, -⟩ := InRes.ok.inj hv
  have := readBits_lt hx
  omega

/-- The code-length-code lengths have 3 bits each (R221). -/
theorem readClLengths_range {cap : Nat} {order cl cl' : List Nat} {inp inp' : Input}
    (h : readClLengths cap order cl inp = .ok cl' inp') (hcl : ∀ l ∈ cl, l ≤ 15) :
    cl'.length = cl.length ∧ ∀ l ∈ cl', l ≤ 15 := by
  induction order generalizing cl inp with
  | nil =>
    obtain ⟨rfl, -⟩ := InRes.ok.inj h
    exact ⟨rfl, hcl⟩
  | cons s order ih =>
    obtain ⟨x, inp₁, hx, hnext⟩ := InRes.andThen_eq_ok.mp h
    have hx8 : x < 2 ^ 3 := readBits_lt hx
    have hset : ∀ l ∈ cl.set s x, l ≤ 15 := by
      intro l hl
      rcases List.mem_or_eq_of_mem_set hl with hl | rfl
      · exact hcl l hl
      · omega
    simpa using ih hnext hset

end Sys2Proof.Machine
end

section
/-! The trees BuildTree makes are full (R181 to R188): every walk ends at a symbol of the alphabet within MAX_CODE_LEN bits. -/

namespace Sys2Proof.Machine

/-! ## Full below a slot -/

/-- Every walk that comes to the slot ends at a leaf within `fuel` bits more. -/
def Tree.SlotFull (t : Tree) (ok : Slot → Bool) (fuel : Nat) : Slot → Prop
  | .node k => t.fullFrom ok fuel k = true
  | .opn => False
  | .leaf s => ok (.leaf s) = true
  | .dummy => ok .dummy = true

theorem Tree.fullFrom_succ {t : Tree} {ok : Slot → Bool} {fuel k : Nat}
    (h : ∀ b : Bool, ∃ slot, t[2 * k + b.toNat]? = some slot ∧ t.SlotFull ok fuel slot) : t.fullFrom ok (fuel + 1) k = true := by
  rw [Tree.fullFrom, List.all_eq_true]
  intro b _
  obtain ⟨slot, hslot, hfull⟩ := h b
  rw [Tree.child, hslot]
  cases slot with
  | opn => exact absurd hfull id
  | leaf s | dummy | node k => exact hfull

/-! ## One level of the builder -/

/-- What a successful build from a depth on is (R183): the depth's symbols fill its slots, or nodes follow them and the build goes
on below these. -/
theorem growTree_ok {fuel l opens next : Nat} {todo : List (Nat × Slot)} {r : Tree}
    (h : growTree (fuel + 1) l todo opens next = .ok r) :
    ∃ here rest, todo = here ++ rest ∧ here.length ≤ opens ∧
      ((opens = here.length ∧ r = here.map Prod.snd) ∨
        ∃ deeper, growTree fuel (l + 1) rest (2 * (opens - here.length)) (next + (opens - here.length)) = .ok deeper ∧
          r = (here.map Prod.snd ++ (List.range' next (opens - here.length)).map Slot.node) ++ deeper) := by
  refine ⟨_, _, (List.takeWhile_append_dropWhile (p := fun p => p.1 == l) (l := todo)).symm, ?_⟩
  rw [growTree] at h
  dsimp only at h
  split at h
  · simp at h
  · refine ⟨by omega, ?_⟩
    split at h
    · split at h
      · rename_i heq
        refine .inl ⟨heq, ?_⟩
        simpa [heq] using h.symm
      · simp at h
    · cases hdeep : growTree fuel (l + 1) (todo.dropWhile fun p => p.1 == l)
          (2 * (opens - (todo.takeWhile fun p => p.1 == l).length)) (next + (opens - (todo.takeWhile fun p => p.1 == l).length)) with
      | error c => simp [hdeep, Except.map] at h
      | ok deeper =>
        rw [hdeep] at h
        exact .inr ⟨deeper, rfl, (Except.ok.inj h).symm⟩

/-- A symbol's slot: a leaf or DUMMY that the kind of the code allows. -/
def Slot.IsSymbol (ok : Slot → Bool) (slot : Slot) : Prop := (∃ s, slot = .leaf s) ∧ ok slot = true ∨ slot = .dummy ∧ ok slot = true

theorem Slot.IsSymbol.full {ok : Slot → Bool} {slot : Slot} (h : slot.IsSymbol ok) (t : Tree) (fuel : Nat) :
    t.SlotFull ok fuel slot := by
  rcases h with ⟨⟨s, rfl⟩, h⟩ | ⟨rfl, h⟩ <;> exact h

/-- Below every slot that is open at a depth the built array is full. The array's part before these slots is `pre`: with node
`next` the next one there are `2 * next` slots in all. -/
theorem growTree_full {ok : Slot → Bool} {fuel l opens next : Nat} {todo : List (Nat × Slot)} {pre r : Tree}
    (htodo : ∀ p ∈ todo, p.2.IsSymbol ok) (h : growTree fuel l todo opens next = .ok r)
    (hpre : pre.length + opens = 2 * next) :
    ∀ i < opens, ∃ slot, (pre ++ r)[pre.length + i]? = some slot ∧ (pre ++ r).SlotFull ok (fuel - 1) slot := by
  induction fuel generalizing l opens next todo pre r with
  | zero => simp [growTree] at h
  | succ fuel ih =>
    obtain ⟨here, rest, rfl, hle, hr⟩ := growTree_ok h
    intro i hi
    have hhere : ∀ more : Tree, i < here.length → ∃ slot, (pre ++ (here.map Prod.snd ++ more))[pre.length + i]? = some slot ∧
        (pre ++ (here.map Prod.snd ++ more)).SlotFull ok fuel slot := by
      intro more hi
      refine ⟨here[i].2, ?_, ?_⟩
      · rw [List.getElem?_append_right (by omega), Nat.add_sub_cancel_left, List.getElem?_append_left (by simpa using hi)]
        simp [hi]
      · exact (htodo _ (List.mem_append_left _ (List.getElem_mem hi))).full _ _
    rcases hr with ⟨hall, rfl⟩ | ⟨deeper, hdeep, rfl⟩
    · simpa using hhere [] (by omega)
    · by_cases hsym : i < here.length
      · simpa using hhere _ hsym
      · cases fuel with
        | zero => simp [growTree] at hdeep
        | succ fuel =>
          have hlevel : (pre ++ (here.map Prod.snd ++ (List.range' next (opens - here.length)).map Slot.node)).length =
              2 * next := by
            simp
            omega
          have hbelow := ih (pre := pre ++ (here.map Prod.snd ++ (List.range' next (opens - here.length)).map Slot.node))
            (fun p hp => htodo p (List.mem_append_right _ hp)) hdeep (by rw [hlevel]; omega)
          rw [hlevel, List.append_assoc] at hbelow
          refine ⟨.node (next + (i - here.length)), ?_, Tree.fullFrom_succ fun b => ?_⟩
          · have hat : i - here.length < opens - here.length := by omega
            rw [List.getElem?_append_right (by omega), Nat.add_sub_cancel_left, List.append_assoc,
              List.getElem?_append_right (by simp; omega), List.getElem?_append_left (by simpa using hat)]
            simp [hat]
          · have hb : b.toNat ≤ 1 := by cases b <;> decide
            have := hbelow (2 * (i - here.length) + b.toNat) (by omega)
            rwa [← Nat.add_assoc, ← Nat.mul_add] at this

/-! ## BuildTree -/

theorem treeOfSymbols_full {kind : CodeKind} {syms : List (Nat × Slot)} {t : Tree}
    (hsyms : ∀ p ∈ syms, p.2.IsSymbol kind.leafOk) (h : treeOfSymbols syms = .ok t) : t.full kind = true := by
  refine Tree.fullFrom_succ (fuel := 14) fun b => ?_
  have hb : b.toNat < 2 := by cases b <;> decide
  simpa [Config.maxCodeLen] using growTree_full (pre := []) hsyms h rfl b.toNat hb

theorem codedSymbols_isSymbol {kind : CodeKind} {lens : List Nat} (hlens : lens.length ≤ kind.alphabet) :
    ∀ p ∈ codedSymbols lens, p.2.IsSymbol kind.leafOk := by
  intro p hp
  simp only [codedSymbols, List.mem_flatMap, symbolsOfLength, List.mem_map, List.mem_filter] at hp
  obtain ⟨l, -, ⟨x, s⟩, ⟨hmem, -⟩, rfl⟩ := hp
  have hs : s < lens.length := by simpa using List.snd_lt_of_mem_zipIdx hmem
  exact .inl ⟨⟨s, rfl⟩, decide_eq_true (by omega)⟩

theorem withDummy_isSymbol {kind : CodeKind} {syms : List (Nat × Slot)} (h : ∀ p ∈ syms, p.2.IsSymbol kind.leafOk) :
    ∀ p ∈ withDummy kind syms, p.2.IsSymbol kind.leafOk := by
  unfold withDummy
  split
  · intro p hp
    rcases List.mem_cons.mp hp with rfl | hp
    · exact h _ (by simp)
    · obtain rfl := List.mem_singleton.mp hp
      exact .inr ⟨rfl, rfl⟩
  · exact h

/-- BuildTree's trees are full (R184). -/
theorem buildTree_full {kind : CodeKind} {lens : List Nat} {t : Tree} (hlens : lens.length ≤ kind.alphabet)
    (h : buildTree lens kind = .ok (some t)) : t.full kind = true := by
  unfold buildTree at h
  dsimp only at h
  split at h
  · simp at h
  · cases ht : treeOfSymbols (withDummy kind (codedSymbols lens)) with
    | error c => simp [ht, Except.map] at h
    | ok t' =>
      obtain rfl : t' = t := by simpa [ht, Except.map] using h
      exact treeOfSymbols_full (withDummy_isSymbol (codedSymbols_isSymbol hlens)) ht

/-- NONE is a distance code's alone (R187). -/
theorem buildTree_some {kind : CodeKind} {lens : List Nat} {r : Option Tree} (hkind : kind ≠ .dist)
    (h : buildTree lens kind = .ok r) : ∃ t, r = some t := by
  unfold buildTree at h
  dsimp only at h
  rw [if_neg (by simp [hkind])] at h
  cases ht : treeOfSymbols (withDummy kind (codedSymbols lens)) with
  | error c => simp [ht, Except.map] at h
  | ok t => exact ⟨t, by simpa [ht, Except.map] using h.symm⟩

theorem growTree_error {fuel l opens next : Nat} {todo : List (Nat × Slot)} {c : Cause}
    (h : growTree fuel l todo opens next = .error c) : c ≠ .noError := by
  induction fuel generalizing l opens next todo with
  | zero => rintro rfl; simp [growTree] at h
  | succ fuel ih =>
    rw [growTree] at h
    dsimp only at h
    split at h
    · rintro rfl; simp at h
    · split at h
      · split at h
        · simp at h
        · rintro rfl; simp at h
      · generalize hdeep : growTree fuel (l + 1) _ _ _ = deeper at h
        cases deeper with
        | error c' =>
          obtain rfl : c' = c := by simpa [Except.map] using h
          exact ih hdeep
        | ok deeper => simp [Except.map] at h

/-- A build that fails has a cause (R185). -/
theorem buildTree_error {kind : CodeKind} {lens : List Nat} {c : Cause} (h : buildTree lens kind = .error c) : c ≠ .noError := by
  unfold buildTree at h
  dsimp only at h
  split at h
  · simp at h
  · cases ht : treeOfSymbols (withDummy kind (codedSymbols lens)) with
    | error c' =>
      obtain rfl : c' = c := by simpa [ht, Except.map] using h
      exact growTree_error ht
    | ok t => simp [ht, Except.map] at h

/-! ## The codes CORE takes up -/

theorem mkCode_built {kind : CodeKind} (tableBits : Nat) {t : Tree} (h : t.full kind = true) :
    (mkCode tableBits t).Built tableBits kind := ⟨h, rfl⟩

theorem fixedLitlenTree_full : fixedLitlenTree.full .litlen = true :=
  buildTree_full (lens := fixedLitlenLens) (by simp only [fixedLitlenLens, List.length_append, List.length_replicate]; decide)
    (by decide +kernel)

theorem fixedDistTree_full : fixedDistTree.full .dist = true :=
  buildTree_full (lens := fixedDistLens) (by decide) (by decide +kernel)

end Sys2Proof.Machine
end

section
/-! What the step of an element can do, said once (R124, R303): which elements a format has, and what each leaves behind its
reads. -/

namespace Sys2Proof.Machine

/-! ## The elements of each format (R101, R107 to R109, R130) -/

theorem decode_blockHeader {v : Nat} {i : Instr} (h : decode .blockHeader v = .ok i) :
    ∃ f, i = .blockStored f ∨ i = .blockFixed f ∨ i = .blockDynamic f ∨ i = .blockReserved f := by
  simp only [decode, decodeBlockHeader] at h
  split at h
  · exact ⟨_, .inl (Except.ok.inj h).symm⟩
  · exact ⟨_, .inr (.inl (Except.ok.inj h).symm)⟩
  · exact ⟨_, .inr (.inr (.inl (Except.ok.inj h).symm))⟩
  · exact ⟨_, .inr (.inr (.inr (Except.ok.inj h).symm))⟩
  · simp at h

theorem decode_storedHeader {v : Nat} {i : Instr} (h : decode .storedHeader v = .ok i) :
    ∃ len nlen, i = .storedHeader len nlen := by
  simp only [decode, decodeStoredHeader] at h
  split at h
  · exact ⟨_, _, (Except.ok.inj h).symm⟩
  · simp at h

theorem decode_storedByte {v : Nat} {i : Instr} (h : decode .storedByte v = .ok i) : ∃ b, i = .storedByte b := by
  simp only [decode, decodeStoredByte] at h
  split at h
  · exact ⟨_, (Except.ok.inj h).symm⟩
  · simp at h

theorem decode_dynamicHeader {v : Nat} {i : Instr} (h : decode .dynamicHeader v = .ok i) :
    ∃ hlit hdist hclen, i = .dynamicHeader hlit hdist hclen := by
  simp only [decode, decodeDynamicHeader] at h
  split at h
  · exact ⟨_, _, _, (Except.ok.inj h).symm⟩
  · simp at h

theorem decode_clenSymbol {v : Nat} {i : Instr} (h : decode .clenSymbol v = .ok i) :
    (∃ len, i = .clLen len) ∨ i = .clRepeatPrev ∨ i = .clZeroShort ∨ i = .clZeroLong := by
  simp only [decode, decodeClen] at h
  split at h
  · exact .inl ⟨_, (Except.ok.inj h).symm⟩
  · split at h
    · exact .inr (.inl (Except.ok.inj h).symm)
    · exact .inr (.inr (.inl (Except.ok.inj h).symm))
    · exact .inr (.inr (.inr (Except.ok.inj h).symm))
    · simp at h

theorem lengthInstrs_eq : lengthInstrs = lengthRows.map Prod.fst := rfl

theorem distanceInstrs_eq : distanceInstrs = distanceRows.map Prod.fst := rfl

theorem decode_litlenSymbol {v : Nat} {i : Instr} (h : decode .litlenSymbol v = .ok i) :
    (∃ b, i = .lit b) ∨ i = .eob ∨ (∃ sym, i = .lenReserved sym) ∨ ∃ base extra, (i, base, extra) ∈ lengthRows := by
  simp only [decode, decodeLitlen] at h
  split at h
  · exact .inl ⟨_, (Except.ok.inj h).symm⟩
  · split at h
    · exact .inr (.inl (Except.ok.inj h).symm)
    · split at h
      · exact .inr (.inr (.inl ⟨_, (Except.ok.inj h).symm⟩))
      · split at h
        · rename_i hi
          obtain rfl := Except.ok.inj h
          have hmem := List.mem_of_getElem? hi
          rw [lengthInstrs_eq, List.mem_map] at hmem
          obtain ⟨⟨_, base, extra⟩, hrow, rfl⟩ := hmem
          exact .inr (.inr (.inr ⟨base, extra, hrow⟩))
        · simp at h

theorem decode_distSymbol {v : Nat} {i : Instr} (h : decode .distSymbol v = .ok i) :
    (∃ sym, i = .distReserved sym) ∨ ∃ base extra, (i, base, extra) ∈ distanceRows := by
  simp only [decode, decodeDist] at h
  split at h
  · exact .inl ⟨_, (Except.ok.inj h).symm⟩
  · split at h
    · rename_i hi
      obtain rfl := Except.ok.inj h
      have hmem := List.mem_of_getElem? hi
      rw [distanceInstrs_eq, List.mem_map] at hmem
      obtain ⟨⟨_, base, extra⟩, hrow, rfl⟩ := hmem
      exact .inr ⟨base, extra, hrow⟩
    · simp at h

theorem decode_command {v : Nat} {i : Instr} (h : decode .command v = .ok i) :
    (∃ count ≤ Config.readMax, i = .cmdRead count) ∨ i = .cmdDetach ∨ i = .cmdAttach ∨ i = .cmdClose := by
  simp only [decode, decodeCommand] at h
  split at h
  · split at h
    · exact .inl ⟨v / 4, by simp only [Config.readMax]; omega, (Except.ok.inj h).symm⟩
    · exact .inr (.inl (Except.ok.inj h).symm)
    · exact .inr (.inr (.inl (Except.ok.inj h).symm))
    · exact .inr (.inr (.inr (Except.ok.inj h).symm))
  · simp at h

/-! ## Lengths and distances (R112, R113, R253) -/

/-- A length symbol is the shared operation on its row of the table (R112, R253). -/
theorem exec_of_mem_lengthRows {i : Instr} {base extra : Nat} (h : (i, base, extra) ∈ lengthRows) (s : State) :
    exec i s = lengthCode ⟨base, extra⟩ s := by
  have hrows : ∀ r ∈ lengthRows, exec r.1 s = lengthCode ⟨r.2.1, r.2.2⟩ s := by
    intro r hr
    fin_cases hr <;> rfl
  exact hrows _ h

/-- A distance symbol is the shared operation on its row of the table (R113, R253). -/
theorem exec_of_mem_distanceRows {i : Instr} {base extra : Nat} (h : (i, base, extra) ∈ distanceRows) (s : State) :
    exec i s = distanceCode ⟨base, extra⟩ s := by
  have hrows : ∀ r ∈ distanceRows, exec r.1 s = distanceCode ⟨r.2.1, r.2.2⟩ s := by
    intro r hr
    fin_cases hr <;> rfl
  exact hrows _ h

/-- Lengths are 3 to 258 (R136). -/
theorem lengthRows_range {i : Instr} {base extra : Nat} (h : (i, base, extra) ∈ lengthRows) :
    3 ≤ base ∧ base + 2 ^ extra ≤ 259 ∧ extra ≤ 16 := by
  have hrows : ∀ r ∈ lengthRows, 3 ≤ r.2.1 ∧ r.2.1 + 2 ^ r.2.2 ≤ 259 ∧ r.2.2 ≤ 16 := by decide
  exact hrows _ h

theorem distanceRows_extra {i : Instr} {base extra : Nat} (h : (i, base, extra) ∈ distanceRows) : extra ≤ 16 := by
  have hrows : ∀ r ∈ distanceRows, r.2.2 ≤ 16 := by decide
  exact hrows _ h

/-! ## The format a state expects (R124, R303) -/

/-- Where a format is expected. -/
def ExpectedIn (s : State) : Format → Prop
  | .blockHeader => s.phase = .step ∧ s.mode = .idle
  | .storedHeader => s.phase = .storedHeader
  | .storedByte => s.phase = .step ∧ s.mode = .stored
  | .dynamicHeader => s.phase = .dynamicHeader
  | .clenSymbol => s.phase = .clenSymbol
  | .litlenSymbol => s.phase = .step ∧ s.mode = .huff
  | .distSymbol => s.phase = .distSymbol
  | .command => False

theorem expectedIn_of_expectedFormat {s : State} {f : Format} (h : expectedFormat s = some f) : ExpectedIn s f := by
  unfold expectedFormat at h
  split at h
  · simp at h
  · simp at h
  · split at h
    · obtain rfl := Option.some.inj h; exact ⟨‹_›, ‹_›⟩
    · obtain rfl := Option.some.inj h; exact ⟨‹_›, ‹_›⟩
    · obtain rfl := Option.some.inj h; exact ⟨‹_›, ‹_›⟩
    all_goals simp at h
  all_goals obtain rfl := Option.some.inj h; assumption

/-! ## What an element leaves -/

/-- The code-length sequence of a dynamic header is being read: the ranges of its counts and of its lengths (R220, R223). -/
def DynWork.InSequence (d : DynWork) : Prop :=
  d.clt.full .clen = true ∧ 257 ≤ d.hlit ∧ d.hlit ≤ 288 ∧ 1 ≤ d.hdist ∧ d.hdist ≤ 32 ∧
    d.lens.length < d.hlit + d.hdist ∧ ∀ l ∈ d.lens, l ≤ 15

/-- What an element of a READ leaves of the state `s`, in which all its reads are done, before READ's loop test. -/
inductive ElementEnd (s : State) : State → Prop where
  /-- A fatal error (R345), behind a block header's BFINAL where there is one (R211, R216). -/
  | fault (c : Cause) (i : ErrInfo) (fin : Bool) (hc : c ≠ .noError) (hfin : s.final = true → fin = true) :
      ElementEnd s (fatal c i { s with final := fin })
  /-- Waiting on the source (R61). -/
  | waits (hdirect : s.input.direct = []) : ElementEnd s { s with phase := .waiting }
  | storedBlock (fin : Bool) (hfin : s.final = true → fin = true) (hphase : s.phase = .step) (hmode : s.mode = .idle) :
      ElementEnd s { s with final := fin, input := alignToByte s.input, phase := .storedHeader }
  | fixedBlock (fin : Bool) (hfin : s.final = true → fin = true) (hphase : s.phase = .step) (hmode : s.mode = .idle) :
      ElementEnd s { s with final := fin, ll := some (fixedLL s.params.tableBits),
                            dist := .code (fixedDist s.params.tableBits), mode := .huff }
  | dynamicBlock (fin : Bool) (hfin : s.final = true → fin = true) (hphase : s.phase = .step) (hmode : s.mode = .idle) :
      ElementEnd s { s with final := fin, phase := .dynamicHeader }
  | storedOpened (len : Count16) (hphase : s.phase = .storedHeader) (halign : s.input.accN % 8 = 0) :
      ElementEnd s { s with storedRem := len, mode := if len = 0#16 then .idle else .stored, phase := .step }
  | storedByte (b : Byte) (hphase : s.phase = .step) (hmode : s.mode = .stored) :
      ElementEnd s { emit b s with storedRem := s.storedRem - 1#16, mode := if s.storedRem = 1#16 then .idle else s.mode }
  /-- A code-length sequence begins or goes on (R222, R223). -/
  | sequence (d : DynWork) (hphase : s.phase = .dynamicHeader ∨ s.phase = .clenSymbol) (hd : d.InSequence) :
      ElementEnd s { s with dyn := d, phase := .clenSymbol }
  /-- The codes of a complete sequence are adopted (R228). -/
  | codes (ll : Code) (dist : DistCode) (hphase : s.phase = .clenSymbol) (hll : ll.Built s.params.tableBits .litlen)
      (hdist : dist = .noCode ∨ ∃ c, dist = .code c ∧ c.Built s.params.tableBits .dist) :
      ElementEnd s { s with ll := some ll, dist := dist, mode := .huff, phase := .step, dyn := DynWork.none }
  | literal (b : Byte) (hphase : s.phase = .step) (hmode : s.mode = .huff) : ElementEnd s (emit b s)
  | endOfBlock (hphase : s.phase = .step) (hmode : s.mode = .huff) :
      ElementEnd s { s with ll := none, dist := .absent, mode := .idle }
  | length (len : Nat) (hphase : s.phase = .step) (hmode : s.mode = .huff) (hlow : 3 ≤ len) (hhigh : len ≤ 258)
      (hdist : s.dist ≠ .noCode) : ElementEnd s { s with len := len, phase := .distSymbol }
  | pair (dist : Nat) (hphase : s.phase = .distSymbol) : ElementEnd s { copy dist s.len s with len := 0, phase := .step }

theorem ElementEnd.fatal {s : State} {c : Cause} (i : ErrInfo) (hc : c ≠ .noError) : ElementEnd s (fatal c i s) :=
  .fault c i s.final hc id

/-- What an element leaves of the state `s` whose meaning may read on. -/
def ElementRun (s t : State) : Prop :=
  ∃ inp, s.input.Leads s.params.inCap inp ∧ inp.Ready s.params.inCap ∧ ElementEnd { s with input := inp } t

theorem ElementEnd.run {s t : State} (hs : s.input.Ready s.params.inCap) (h : ElementEnd s t) : ElementRun s t :=
  ⟨s.input, .refl hs.2.1 hs.2.2.1, hs, h⟩

/-- A read inside an element's meaning: what follows it is what follows its value, or an end of the element. -/
theorem ElementRun.ofOnInput {α : Type} {s t : State} {n : Nat} {op : Input → InRes α} {k : α → State → Result}
    (hop : ReadyReader s.params.inCap n op) (hs : s.input.Ready s.params.inCap) (h : onInput s (op s.input) k = .next t)
    (hk : ∀ a inp, op s.input = .ok a inp → k a { s with input := inp } = .next t → ElementEnd { s with input := inp } t) :
    ElementRun s t := by
  rcases onInput_next h with ⟨a, inp, hr, hnext⟩ | ⟨c, i, inp, hr, rfl⟩ | ⟨inp, hr, rfl⟩
  · obtain ⟨hl, hready, -⟩ := hop.ok hs hr
    exact ⟨inp, hl, hready, hk a inp hr hnext⟩
  · obtain ⟨hl, hready, hc⟩ := hop.fatal hs hr
    exact ⟨inp, hl, hready, ElementEnd.fatal i hc⟩
  · obtain ⟨hl, hready⟩ := hop.wait hs hr
    exact ⟨inp, hl, hready, .waits hready.2.2.2⟩

/-! ## Block headers -/

theorem ElementEnd.ofBlockHeader {s t : State} {f : Bool} {i : Instr} (hphase : s.phase = .step) (hmode : s.mode = .idle)
    (hi : i = .blockStored f ∨ i = .blockFixed f ∨ i = .blockDynamic f ∨ i = .blockReserved f) (h : exec i s = .next t) :
    ElementEnd s t := by
  have hfin : s.final = true → finalAfter f s.final = true := fun hf => by simp [finalAfter, hf]
  rcases hi with rfl | rfl | rfl | rfl <;> obtain rfl := Host.Outcome.next.inj h
  · exact .storedBlock _ hfin hphase hmode
  · exact .fixedBlock _ hfin hphase hmode
  · exact .dynamicBlock _ hfin hphase hmode
  · exact .fault _ _ _ (by decide) hfin

theorem ElementEnd.ofStoredHeader {s t : State} {len nlen : Count16} (hphase : s.phase = .storedHeader)
    (halign : s.input.accN % 8 = 0) (h : exec (.storedHeader len nlen) s = .next t) : ElementEnd s t := by
  simp only [exec, execStoredHeader] at h
  split at h <;> obtain rfl := Host.Outcome.next.inj h
  · exact .storedOpened len hphase halign
  · exact .fatal _ (by decide)

theorem ElementEnd.ofStoredByte {s t : State} {b : Byte} (hphase : s.phase = .step) (hmode : s.mode = .stored)
    (h : exec (.storedByte b) s = .next t) : ElementEnd s t := by
  obtain rfl := Host.Outcome.next.inj h
  exact .storedByte b hphase hmode

/-! ## Dynamic headers (R220 to R229) -/

theorem ElementRun.ofDynamicHeader {s t : State} {hlit hdist : BitVec 5} {hclen : BitVec 4} (hs : s.input.Ready s.params.inCap)
    (hphase : s.phase = .dynamicHeader) (h : exec (.dynamicHeader hlit hdist hclen) s = .next t) : ElementRun s t := by
  rw [exec, execDynamicHeader] at h
  refine .ofOnInput (readClLengths_reader _ _ _) hs h fun cl inp hcl hk => ?_
  obtain ⟨hlen, -⟩ := readClLengths_range hcl (by simp [CodeKind.alphabet])
  dsimp only at hk
  split at hk <;> obtain rfl := Host.Outcome.next.inj hk
  · rename_i tree htree
    obtain ⟨tree, rfl⟩ := buildTree_some (by decide) htree
    have hfull : tree.full .clen = true := buildTree_full (by rw [hlen]; simp) htree
    have hl := hlit.isLt
    have hd := hdist.isLt
    refine .sequence ⟨hlit.toNat + 257, hdist.toNat + 1, tree, []⟩ (.inl hphase) ⟨hfull, ?_⟩
    simp only [List.length_nil, List.not_mem_nil, false_imp_iff, implies_true, and_true]
    omega
  · exact .fatal _ (buildTree_error ‹_›)

/-- The codes of a complete sequence are adopted, or the first build error is raised. -/
theorem ElementEnd.ofAdoptCodes {s : State} {lens : List Nat} (hphase : s.phase = .clenSymbol) (hs : s.dyn.InSequence) :
    ElementEnd s (adoptCodes lens s) := by
  obtain ⟨-, -, hlit, -, hdist, -⟩ := hs
  rcases adoptCodes_cases lens s with ⟨c, he, hr⟩ | ⟨tll, c, -, he, hr⟩ | ⟨tll, td, hll, hd, hr⟩ <;> rw [hr]
  · exact .fatal _ (buildTree_error he)
  · exact .fatal _ (buildTree_error he)
  · obtain ⟨tll, rfl⟩ := buildTree_some (by decide) hll
    refine .codes _ _ hphase (mkCode_built _ (buildTree_full ?_ hll)) ?_
    · simp only [splitLitlen, List.length_append, List.length_take, List.length_replicate, CodeKind.alphabet]
      omega
    · cases td with
      | none => exact .inl rfl
      | some td =>
        refine .inr ⟨_, rfl, mkCode_built _ (buildTree_full ?_ hd)⟩
        simp only [splitDist, List.length_append, List.length_take, List.length_replicate, CodeKind.alphabet]
        omega

theorem ElementEnd.ofExtendLengths {s : State} {more : List Nat} (hphase : s.phase = .clenSymbol) (hs : s.dyn.InSequence)
    (hmore : ∀ l ∈ more, l ≤ 15) : ElementEnd s (extendLengths more s) := by
  rcases extendLengths_cases more s with ⟨hlen, hr⟩ | ⟨-, hr⟩ <;> rw [hr]
  · obtain ⟨hfull, hlit₁, hlit₂, hdist₁, hdist₂, -, hlens⟩ := hs
    have hseq : ({ s.dyn with lens := s.dyn.lens ++ more } : DynWork).InSequence :=
      ⟨hfull, hlit₁, hlit₂, hdist₁, hdist₂, hlen, fun l hl => (List.mem_append.mp hl).elim (hlens l) (hmore l)⟩
    have hend := ElementEnd.sequence _ (.inr hphase) hseq
    rwa [← hphase] at hend
  · exact .ofAdoptCodes hphase hs

theorem ElementEnd.ofRepeatLength {s : State} {r value : Nat} (hphase : s.phase = .clenSymbol) (hs : s.dyn.InSequence)
    (hvalue : value ≤ 15) : ElementEnd s (repeatLength r value s) := by
  rcases repeatLength_cases r value s with ⟨-, hr⟩ | ⟨-, hr⟩ <;> rw [hr]
  · exact .fatal _ (by decide)
  · exact .ofExtendLengths hphase hs fun l hl => (List.eq_of_mem_replicate hl).trans_le hvalue

/-- A repeat symbol behind its extra bits (R224 to R226). -/
theorem ElementRun.ofRepeatSymbol {s t : State} {o : Operand} {value : Nat} (hs : s.input.Ready s.params.inCap)
    (hphase : s.phase = .clenSymbol) (hseq : s.dyn.InSequence) (hvalue : value ≤ 15) (ho : o.extra ≤ 16)
    (h : onInput s (readOperand s.params.inCap o s.input) (fun r t => .next (repeatLength r value t)) = .next t) : ElementRun s t := by
  refine .ofOnInput (readOperand_reader _ ho) hs h fun r inp _ hk => ?_
  obtain rfl := Host.Outcome.next.inj hk
  exact .ofRepeatLength hphase hseq hvalue

theorem ElementRun.ofClenSymbol {s t : State} {i : Instr} (hs : s.input.Ready s.params.inCap) (hphase : s.phase = .clenSymbol)
    (hseq : s.dyn.InSequence)
    (hi : (∃ len, i = .clLen len) ∨ i = .clRepeatPrev ∨ i = .clZeroShort ∨ i = .clZeroLong) (h : exec i s = .next t) : ElementRun s t := by
  rcases hi with ⟨len, rfl⟩ | rfl | rfl | rfl
  · obtain rfl := Host.Outcome.next.inj h
    refine ElementEnd.run hs (.ofExtendLengths hphase hseq fun l hl => ?_)
    have hlen := len.isLt
    rw [List.mem_singleton.mp hl]
    omega
  · simp only [exec, execClRepeatPrev] at h
    split at h
    · obtain rfl := Host.Outcome.next.inj h
      exact ElementEnd.run hs (.fatal _ (by decide))
    · rename_i prev hprev
      have ⟨_, _, _, _, _, _, hlens⟩ := hseq
      exact .ofRepeatSymbol hs hphase hseq (hlens prev (List.mem_of_getLast? hprev)) (by decide) h
  · exact .ofRepeatSymbol hs hphase hseq (Nat.zero_le _) (by decide) h
  · exact .ofRepeatSymbol hs hphase hseq (Nat.zero_le _) (by decide) h

/-! ## Symbols -/

theorem ElementRun.ofLitlenSymbol {s t : State} {i : Instr} (hs : s.input.Ready s.params.inCap) (hphase : s.phase = .step)
    (hmode : s.mode = .huff)
    (hi : (∃ b, i = .lit b) ∨ i = .eob ∨ (∃ sym, i = .lenReserved sym) ∨ ∃ base extra, (i, base, extra) ∈ lengthRows)
    (h : exec i s = .next t) : ElementRun s t := by
  rcases hi with ⟨b, rfl⟩ | rfl | ⟨sym, rfl⟩ | ⟨base, extra, hrow⟩
  · obtain rfl := Host.Outcome.next.inj h
    exact ElementEnd.run hs (.literal b hphase hmode)
  · obtain rfl := Host.Outcome.next.inj h
    exact ElementEnd.run hs (.endOfBlock hphase hmode)
  · obtain rfl := Host.Outcome.next.inj h
    exact ElementEnd.run hs (.fatal _ (by decide))
  · obtain ⟨hbase, htop, hextra⟩ := lengthRows_range hrow
    rw [exec_of_mem_lengthRows hrow] at h
    refine .ofOnInput (readOperand_reader _ hextra) hs h fun len inp hlen hk => ?_
    obtain ⟨hlow, hhigh⟩ := readOperand_range hlen
    dsimp only at hlow hhigh hk
    split at hk <;> obtain rfl := Host.Outcome.next.inj hk
    · exact .fatal _ (by decide)
    · exact .length len hphase hmode (by omega) (by omega) ‹_›

theorem ElementRun.ofDistSymbol {s t : State} {i : Instr} (hs : s.input.Ready s.params.inCap) (hphase : s.phase = .distSymbol)
    (hi : (∃ sym, i = .distReserved sym) ∨ ∃ base extra, (i, base, extra) ∈ distanceRows) (h : exec i s = .next t) : ElementRun s t := by
  rcases hi with ⟨sym, rfl⟩ | ⟨base, extra, hrow⟩
  · obtain rfl := Host.Outcome.next.inj h
    exact ElementEnd.run hs (.fatal _ (by decide))
  · rw [exec_of_mem_distanceRows hrow] at h
    refine .ofOnInput (readOperand_reader _ (distanceRows_extra hrow)) hs h fun dist inp _ hk => ?_
    obtain rfl := Host.Outcome.next.inj hk
    exact .pair dist hphase

end Sys2Proof.Machine
end

section
/-! What a step of a READ in progress can do, from a state that meets the invariant: its element's reads, and what the element
leaves (R124, R303). -/

namespace Sys2Proof.Machine

/-! ## Where a step reads -/

section
variable {s : State} {f : Format}

theorem Inv.decodes_of_expected (h : Inv s) (hf : ExpectedIn s f) : s.mode.decodes = true := by
  cases f with
  | blockHeader | storedByte | litlenSymbol => exact (h.phase.atStep hf.1).1
  | storedHeader => rw [(h.phase.inHeader (.inl hf)).1]; rfl
  | dynamicHeader => rw [(h.phase.inHeader (.inr (.inl hf))).1]; rfl
  | clenSymbol => rw [(h.phase.inHeader (.inr (.inr hf))).1]; rfl
  | distSymbol => rw [(h.phase.inPair hf).1]; rfl
  | command => exact absurd hf id

/-- A stored block's bytes are expected exactly at a step boundary inside one. -/
theorem storedByte_of_expected (hf : ExpectedIn s f) : f = .storedByte ↔ s.phase = .step ∧ s.mode = .stored := by
  cases f <;> simp_all [ExpectedIn]

theorem Inv.filled_of_decodes (h : Inv s) (hd : s.mode.decodes = true) : s.input.Filled := by
  refine h.mode.filled ?_ ?_ <;> rintro hm <;> simp [hm, Mode.decodes] at hd

theorem Inv.ready_of_decodes (h : Inv s) (hd : s.mode.decodes = true) (hs : ¬(s.phase = .step ∧ s.mode = .stored)) :
    s.input.Ready s.params.inCap :=
  ⟨h.params.1, h.input, h.filled_of_decodes hd, h.phase.noDirect hs⟩

/-- How many bytes a stored-byte step may ask for (R158). -/
def State.storedWant (s : State) : Nat := min s.storedRem.toNat s.room

theorem Inv.storedWant_pos (h : Inv s) (hphase : s.phase = .step) (hmode : s.mode = .stored) : 1 ≤ s.storedWant := by
  obtain ⟨-, hroom, -⟩ := h.phase.atStep hphase
  have hrem := h.mode.storedLeft hmode
  have : s.storedRem.toNat ≠ 0 := fun hz => hrem (BitVec.eq_of_toNat_eq hz)
  unfold State.storedWant
  omega

theorem Inv.storedReady (h : Inv s) (hphase : s.phase = .step) (hmode : s.mode = .stored) :
    s.input.StoredReady s.params.inCap s.storedWant := by
  refine ⟨h.params.1, h.input, h.filled_of_decodes (by simp [hmode, Mode.decodes]), h.mode.aligned (.inl hmode), ?_⟩
  exact h.phase.directFits.resolve_right (by simp [hphase])

/-- The input layers an element's value leaves. -/
def State.Left (s : State) (inp : Input) : Prop :=
  if s.phase = .step ∧ s.mode = .stored then inp.StoredLeft s.params.inCap s.storedWant else inp.Ready s.params.inCap

/-- A symbol's value is read with the code of its format, or the model stops where that is absent (R184, R194). -/
theorem fetchValue_symbol_reader (hf : f = .clenSymbol ∨ f = .litlenSymbol ∨ f = .distSymbol) :
    ReadyReader s.params.inCap 1 fun inp => fetchValue f { s with input := inp } := by
  rcases hf with rfl | rfl | rfl
  · exact decodeSym_reader _ s.dyn.clt
  · cases hll : s.ll with
    | none => simpa only [fetchValue, hll] using Reader.stop _
    | some c => simpa only [fetchValue, hll] using decodeSym_reader _ c.tree
  · cases hd : s.dist with
    | absent | noCode => simpa only [fetchValue, hd] using Reader.stop _
    | code c => simpa only [fetchValue, hd] using decodeSym_reader _ c.tree

/-- The value of the expected element is a reader of the stream (R124, R303). -/
theorem fetchValue_reader (h : Inv s) (hf : expectedFormat s = some f) :
    Reader (fun inp => Inv { s with input := inp }) s.Left s.params.inCap 1 fun inp => fetchValue f { s with input := inp } := by
  have hin := expectedIn_of_expectedFormat hf
  by_cases hstored : s.phase = .step ∧ s.mode = .stored
  · obtain rfl : f = .storedByte := (storedByte_of_expected hin).mpr hstored
    have hread := (readStoredByte_reader s.params.inCap (h.storedWant_pos hstored.1 hstored.2)).andThen (m := 0)
      fun b => .pure (fun _ hq => ⟨hq.sound, hq.filled⟩) b.toNat
    refine hread.mono (fun inp hi => hi.storedReady hstored.1 hstored.2) (fun inp hq => ?_) (by decide)
    rw [State.Left, if_pos hstored]
    exact hq
  · have hread : ReadyReader s.params.inCap 1 fun inp => fetchValue f { s with input := inp } := by
      cases f with
      | blockHeader => exact readBlockHeader_reader _
      | storedHeader => exact readStoredHeader_reader _
      | dynamicHeader => exact readDynamicHeader_reader _
      | storedByte => exact absurd hin hstored
      | command => exact absurd hin id
      | clenSymbol => exact fetchValue_symbol_reader (.inl rfl)
      | litlenSymbol => exact fetchValue_symbol_reader (.inr (.inl rfl))
      | distSymbol => exact fetchValue_symbol_reader (.inr (.inr rfl))
    refine hread.mono (fun inp hi => hi.ready_of_decodes (h.decodes_of_expected hin) hstored) (fun inp hq => ?_) (le_refl _)
    rw [State.Left, if_neg hstored]
    exact hq

/-- A step that waits on the source has no byte of a direct answer left. -/
theorem fetchValue_wait (h : Inv s) (hf : expectedFormat s = some f) {inp : Input} (hr : fetchValue f s = .wait inp) :
    inp.direct = [] := by
  have hin := expectedIn_of_expectedFormat hf
  obtain ⟨-, hleft⟩ := (fetchValue_reader h hf).wait (inp := s.input) h hr
  by_cases hstored : s.phase = .step ∧ s.mode = .stored
  · obtain rfl : f = .storedByte := (storedByte_of_expected hin).mpr hstored
    rcases InRes.andThen_eq_wait.mp hr with hr | ⟨_, _, _, hr⟩
    · exact readStoredByte_wait (h.storedReady hstored.1 hstored.2) (h.storedWant_pos hstored.1 hstored.2) hr
    · simp at hr
  · rw [State.Left, if_neg hstored] at hleft
    exact hleft.2.2.2

/-- Behind LEN and NLEN the stream is at a byte boundary. -/
theorem Inv.storedHeader_aligned (h : Inv s) (hf : expectedFormat s = some f) {inp : Input} {v : Nat}
    (hr : fetchValue f s = .ok v inp) (hphase : s.phase = .storedHeader) : inp.accN % 8 = 0 := by
  obtain rfl : f = .storedHeader := by simpa [expectedFormat, hphase] using hf.symm
  have hready := h.ready_of_decodes (h.decodes_of_expected (f := .storedHeader) hphase) (by simp [hphase])
  exact readStoredHeader_aligned hready (h.phase.headerAligned hphase) hr

/-! ## What the step leaves -/

/-- The expected element, run behind its value. -/
theorem exec_element (h : Inv s) (hf : expectedFormat s = some f) {inp : Input} {v : Nat} {i : Instr} {u : State}
    (hsound : inp.Sound s.params.inCap) (hfilled : inp.Filled) (hleft : s.Left inp)
    (halign : s.phase = .storedHeader → inp.accN % 8 = 0) (hd : decode f v = .ok i) (he : exec i { s with input := inp } = .next u) :
    ∃ inp', inp.Leads s.params.inCap inp' ∧ s.Left inp' ∧ ElementEnd { s with input := inp' } u := by
  have hin := expectedIn_of_expectedFormat hf
  by_cases hstored : s.phase = .step ∧ s.mode = .stored
  · obtain rfl : f = .storedByte := (storedByte_of_expected hin).mpr hstored
    obtain ⟨b, rfl⟩ := decode_storedByte hd
    exact ⟨inp, .refl hsound hfilled, hleft, .ofStoredByte hstored.1 hstored.2 he⟩
  · rw [State.Left, if_neg hstored] at hleft
    suffices hrun : ElementRun { s with input := inp } u by
      obtain ⟨inp', hl, hready, hend⟩ := hrun
      exact ⟨inp', hl, by rw [State.Left, if_neg hstored]; exact hready, hend⟩
    cases f with
    | blockHeader =>
      obtain ⟨b, hi⟩ := decode_blockHeader hd
      exact ElementEnd.run hleft (.ofBlockHeader hin.1 hin.2 hi he)
    | storedHeader =>
      obtain ⟨len, nlen, rfl⟩ := decode_storedHeader hd
      exact ElementEnd.run hleft (.ofStoredHeader hin (halign hin) he)
    | storedByte => exact absurd hin hstored
    | dynamicHeader =>
      obtain ⟨hlit, hdist, hclen, rfl⟩ := decode_dynamicHeader hd
      exact .ofDynamicHeader hleft hin he
    | clenSymbol => exact .ofClenSymbol hleft hin (h.phase.inSequence hin) (decode_clenSymbol hd) he
    | litlenSymbol => exact .ofLitlenSymbol hleft hin.1 hin.2 (decode_litlenSymbol hd) he
    | distSymbol => exact .ofDistSymbol hleft hin (decode_distSymbol hd) he
    | command => exact absurd hin id

theorem settle_of_phase_ne {u : State} (h : u.phase ≠ .step) : settle u = u := by simp [settle, h]

/-- What a step of a READ does: its reads leave `inp`, its element ends in `u`, and READ's loop test follows (R303). Unless it
faults or waits it takes a bit or more (R359). -/
theorem step_element (h : Inv s) (hf : expectedFormat s = some f) {t : State} (hstep : step s = .next t) :
    ∃ inp u, s.input.Leads s.params.inCap inp ∧ s.Left inp ∧ ElementEnd { s with input := inp } u ∧ t = settle u ∧
      (u.mode = .error ∨ u.phase = .waiting ∨ inp.ahead.length < s.input.ahead.length) := by
  have hread := fetchValue_reader h hf
  rw [step_of_expectedFormat hf] at hstep
  rcases onInput_next hstep with ⟨v, inp, hr, hrun⟩ | ⟨c, i, inp, hr, rfl⟩ | ⟨inp, hr, rfl⟩
  · obtain ⟨hl, hleft, hless⟩ := hread.ok (inp := s.input) h hr
    obtain ⟨i, u, hd, he, rfl⟩ := runValue_next hrun
    obtain ⟨inp', hl', hleft', hend⟩ := exec_element h hf hl.sound hl.filled hleft (h.storedHeader_aligned hf hr) hd he
    have := hl'.suffix.length_le
    exact ⟨inp', u, hl.trans hl', hleft', hend, rfl, .inr (.inr (by omega))⟩
  · obtain ⟨hl, hleft, hc⟩ := hread.fatal (inp := s.input) h hr
    exact ⟨inp, _, hl, hleft, .fatal i hc, (settle_of_phase_ne (by simp)).symm, .inl rfl⟩
  · obtain ⟨hl, hleft⟩ := hread.wait (inp := s.input) h hr
    exact ⟨inp, _, hl, hleft, .waits (fetchValue_wait h hf hr), (settle_of_phase_ne (by simp)).symm, .inr (.inl rfl)⟩

end

end Sys2Proof.Machine
end

section
/-! What the step of a command can do, from a state that meets the invariant (R300, R310, R315, R320, R322). -/

namespace Sys2Proof.Machine

/-! ## The invariant says nothing of the command port -/

theorem Inv.withPort {s : State} (h : Inv s) (cmds : List CmdWord) (responses : List Response) :
    Inv { s with cmds := cmds, responses := responses } := by
  obtain ⟨hparams, hinput, hwin, hcodes, ⟨_, _, _, _, _, _, _, _⟩, ⟨_, _, _, _, _, _⟩, ⟨_, _, _, _, _, _, _, _, _, _, _, _, _⟩⟩ := h
  exact ⟨hparams, hinput, hwin, hcodes, ⟨‹_›, ‹_›, ‹_›, ‹_›, ‹_›, ‹_›, ‹_›, ‹_›⟩, ⟨‹_›, ‹_›, ‹_›, ‹_›, ‹_›, ‹_›⟩,
    ⟨‹_›, ‹_›, ‹_›, ‹_›, ‹_›, ‹_›, ‹_›, ‹_›, ‹_›, ‹_›, ‹_›, ‹_›, ‹_›⟩⟩

/-- A response to a command that reads nothing is the one change it makes (R65). -/
theorem respond_of_command {s : State} (h : Inv s) (hphase : s.phase = .command) (r : Response) :
    respond r s = { s with responses := s.responses ++ [r] } := by
  obtain ⟨hcount, hresp⟩ := h.phase.noCommand hphase
  unfold respond
  rw [← hphase, ← hcount, ← hresp]

theorem Inv.answered {s : State} (h : Inv s) (hphase : s.phase = .command) (r : Response) : Inv (respond r s) := by
  rw [respond_of_command h hphase]
  exact h.withPort s.cmds _

/-! ## Passthrough READs (R322) -/

/-- Bytes of INBUF are passed on, behind those of ACC (R322). -/
theorem Input.Leads.advance {cap n : Nat} {inp : Input} (hs : inp.Sound cap) (hf : inp.Filled)
    (hn : n ≤ inp.inFill - inp.inPos) (hacc : inp.accN = 0 ∨ n = 0) :
    inp.Leads cap { inp with inPos := inp.inPos + n } := by
  rcases hacc with hacc | rfl
  · have hahead : inp.ahead = streamBits (bufSlice inp.inbuf inp.inPos n) ++ { inp with inPos := inp.inPos + n }.ahead := by
      have hsplit : inp.buffered = bufSlice inp.inbuf inp.inPos n ++ { inp with inPos := inp.inPos + n }.buffered := by
        rw [Input.buffered, Input.buffered, ← bufSlice_add]
        congr 1
        dsimp only
        omega
      simp only [Input.ahead_eq, hsplit, hacc, streamBits_append, List.append_assoc]
      rfl
    have hcur := hs.cursor
    have hdel := hs.delivered
    refine ⟨⟨hs.accBits, hs.accClear, ?_, hs.capacity, ?_, hs.received, hs.sourceEnd, fun hne => ?_⟩, hf,
      hahead ▸ List.suffix_append _ _, rfl, rfl, rfl, rfl⟩
    · dsimp only; omega
    · dsimp only; omega
    · have := hs.directLast hne
      dsimp only
      omega
  · exact .refl hs hf

theorem drainAcc_eq (n : Nat) (inp : Input) : (drainAcc n inp).1.length = n ∧ (drainAcc n inp).2 = inp.dropBits (8 * n) := by
  induction n generalizing inp with
  | zero => exact ⟨rfl, by simp [drainAcc, Input.dropBits]⟩
  | succ n ih =>
    obtain ⟨hlen, hleft⟩ := ih { inp with acc := inp.acc >>> 8, accN := inp.accN - 8 }
    refine ⟨by simp [drainAcc, hlen], ?_⟩
    rw [drainAcc, hleft]
    simp only [Input.dropBits, ← BitVec.shiftRight_add, Nat.sub_sub, Nat.mul_add, Nat.mul_one, Nat.add_comm]

/-- How many bytes of ACC and of INBUF are passed on (R322). -/
theorem drainBuffered_eq (count : Nat) (inp : Input) :
    (drainBuffered count inp).1.length = min count (inp.accN / 8) + min (count - min count (inp.accN / 8)) (inp.inFill - inp.inPos) ∧
      (drainBuffered count inp).2 =
        { inp.dropBits (8 * min count (inp.accN / 8)) with
          inPos := inp.inPos + min (count - min count (inp.accN / 8)) (inp.inFill - inp.inPos) } := by
  obtain ⟨hlen, hleft⟩ := drainAcc_eq (min count (inp.accN / 8)) inp
  simp [drainBuffered, hlen, hleft, Input.dropBits]

theorem Input.Leads.drainBuffered {cap : Nat} {inp : Input} (count : Nat) (hs : inp.Sound cap) (hf : inp.Filled)
    (halign : inp.accN % 8 = 0) : inp.Leads cap (drainBuffered count inp).2 := by
  have hdrop : inp.Leads cap (inp.dropBits (8 * min count (inp.accN / 8))) := .dropBits hs hf (by omega)
  rw [(drainBuffered_eq count inp).2]
  refine hdrop.trans (.advance hdrop.sound hdrop.filled ?_ ?_)
  · exact Nat.min_le_right _ _
  · simp only [Input.dropBits]
    omega

/-- A request made where CORE holds nothing passes its bytes on (R322). -/
theorem Input.Leads.request {cap m : Nat} {inp : Input} (hm : 1 ≤ m) (hs : inp.Sound cap) (hf : inp.Filled)
    (hd : inp.direct = []) (hacc : inp.accN = 0) (hempty : inp.inPos = inp.inFill) : inp.Leads cap (inp.request m).2 := by
  by_cases hrest : inp.src.rest = []
  · rw [Input.request_of_rest_nil hrest]
    exact .askedInVain m hs hf
  · obtain ⟨k, hone, hle, hlen, hr⟩ := inp.request_of_rest hm hrest
    rw [hr]
    have hdel := hs.delivered
    have hrec := hs.received
    have hend := hs.sourceEnd
    rw [Source.rest_length] at hlen
    refine ⟨⟨hs.accBits, hs.accClear, hs.cursor, hs.capacity, ?_, ?_, ?_, hs.directLast⟩, hf, ?_, ?_, ?_, rfl, rfl⟩
    · dsimp only; omega
    · simp only [Source.answered]; omega
    · simp only [Source.answered]; omega
    · refine ⟨streamBits (inp.src.rest.take k), ?_⟩
      simp [Input.ahead_eq, Input.buffered, hd, hacc, hempty, bitsLsbFirst, ← streamBits_append]
    · simp only [Source.answered_rest, List.length_drop, Source.rest_length]; omega
    · simp only [Input.origin, Source.answered]; omega

/-! ## What a command leaves -/

/-- What a command leaves of the state `s` that accepted it, before READ's loop test. -/
inductive CommandEnd (s : State) : State → Prop where
  /-- The one change is the response. -/
  | answered (r : Response) (hdata : r.bytes = []) : CommandEnd s (respond r s)
  | fault (c : Cause) (i : ErrInfo) (inp : Input) (hl : s.input.Leads s.params.inCap inp) (herror : s.mode ≠ .error)
      (hclosed : s.mode ≠ .closed) (hc : c ≠ .noError) : CommandEnd s (fatal c i { s with input := inp })
  /-- A READ that decodes is accepted and drains the staged bytes (R302). -/
  | reads (count : Nat) (hmode : s.mode.decodes = true) (hpos : 1 ≤ count) (hmax : count ≤ Config.readMax) :
      CommandEnd s (drain { s with phase := .step, rdCount := count, rdResp := [] })
  /-- A passthrough READ (R322). -/
  | forwarded (r : Response) (inp : Input) (hl : s.input.Leads s.params.inCap inp) (halign : inp.accN % 8 = 0)
      (hd : inp.direct = []) (hmode : s.mode = .passthru) : CommandEnd s (respond r { s with input := inp })
  | waits (inp : Input) (hl : s.input.Leads s.params.inCap inp) (halign : inp.accN % 8 = 0) (hd : inp.direct = [])
      (hmode : s.mode = .passthru) : CommandEnd s { s with input := inp, phase := .waiting }
  | passthrough (hmode : s.mode.decodes = true) : CommandEnd s (respond .done (detachPassthrough (detachCommon s)))
  | rewind (hmode : s.mode.decodes = true) : CommandEnd s (respond .done (detachRewind (detachCommon s)))
  | attached (hmode : s.mode = .passthru) : CommandEnd s (respond .done (attachReset s))
  | closed (hmode : s.mode ≠ .closed) : CommandEnd s (respond .done (closeCore s))

section
variable {s u : State}

theorem CommandEnd.fatal {c : Cause} (i : ErrInfo) (h : Inv s) (herror : s.mode ≠ .error) (hclosed : s.mode ≠ .closed)
    (hc : c ≠ .noError) : CommandEnd s (fatal c i s) :=
  .fault c i s.input (.refl h.input (h.mode.filled herror hclosed)) herror hclosed hc

theorem CommandEnd.ofPassRead {count : Nat} (h : Inv s) (hphase : s.phase = .command) (hmode : s.mode = .passthru)
    (he : passRead count s = .next u) : CommandEnd s u := by
  have hfilled : s.input.Filled := h.mode.filled (by simp [hmode]) (by simp [hmode])
  have halign : s.input.accN % 8 = 0 := h.mode.aligned (.inr (.inl hmode))
  have hdirect : s.input.direct = [] := h.phase.noDirect (by simp [hphase])
  rcases passRead_cases count s with ⟨-, hr⟩ | ⟨-, -, hr⟩ | ⟨hcount, hnone, a, inp, ha, hr⟩
  · obtain rfl := Host.Outcome.next.inj (hr.symm.trans he)
    exact .answered .zero rfl
  · obtain rfl := Host.Outcome.next.inj (hr.symm.trans he)
    obtain ⟨-, hleft⟩ := drainBuffered_eq count s.input
    refine .forwarded _ _ (.drainBuffered count h.input hfilled halign) ?_ ?_ hmode <;> rw [hleft]
    · simp only [Input.dropBits]
      omega
    · exact hdirect
  · have hlen := (drainBuffered_eq count s.input).1
    have hcur := h.input.cursor
    rw [hnone, List.length_nil] at hlen
    have hl : s.input.Leads s.params.inCap (s.input.request count).2 :=
      .request (by omega) h.input hfilled hdirect (by omega) (by omega)
    obtain rfl : (s.input.request count).2 = inp := by rw [ha]
    rw [hr] at he
    cases a with
    | data bs => obtain rfl := Host.Outcome.next.inj he; exact .forwarded _ _ hl halign hdirect hmode
    | endOfData => obtain rfl := Host.Outcome.next.inj he; exact .forwarded _ _ hl halign hdirect hmode
    | ioError p =>
      obtain rfl := Host.Outcome.next.inj he
      exact .fault _ _ _ hl (by simp [hmode]) (by simp [hmode]) (by decide)
    | silent => obtain rfl := Host.Outcome.next.inj he; exact .waits _ hl halign hdirect hmode

/-- A READ in a mode that decodes (R300, R301). -/
theorem execCmdRead_of_decodes (count : Nat) (h : s.mode.decodes = true) :
    execCmdRead count s = if count = 0 then .next (respond (if s.atEos then .eos else .zero) s)
      else .next (drain { s with phase := .step, rdCount := count, rdResp := [] }) := by
  unfold execCmdRead
  split <;> simp_all [Mode.decodes]

theorem CommandEnd.ofRead {count : Nat} (h : Inv s) (hphase : s.phase = .command) (hmax : count ≤ Config.readMax)
    (he : execCmdRead count s = .next u) : CommandEnd s u := by
  by_cases hdecodes : s.mode.decodes = true
  · rw [execCmdRead_of_decodes count hdecodes] at he
    split at he <;> obtain rfl := Host.Outcome.next.inj he
    · exact .answered _ (by split <;> rfl)
    · exact .reads count hdecodes (by omega) hmax
  · cases hmode : s.mode with
    | idle | stored | huff => simp [hmode, Mode.decodes] at hdecodes
    | error | closed =>
      simp only [execCmdRead, hmode] at he
      obtain rfl := Host.Outcome.next.inj he
      exact .answered _ rfl
    | released =>
      simp only [execCmdRead, hmode] at he
      obtain rfl := Host.Outcome.next.inj he
      exact .fatal _ h (by simp [hmode]) (by simp [hmode]) (by decide)
    | passthru =>
      simp only [execCmdRead, hmode] at he
      exact .ofPassRead h hphase hmode he

/-- A DETACH that is neither the answer of a terminated CORE nor that of a closed one (R310). -/
theorem execCmdDetach_of_live (herror : s.mode ≠ .error) (hclosed : s.mode ≠ .closed) :
    execCmdDetach s = if s.detached then .next (Machine.fatal .useDetachTwice .empty s)
      else .next (respond .done (if s.params.rewindCapable then detachRewind (detachCommon s)
        else detachPassthrough (detachCommon s))) := by
  unfold execCmdDetach
  split
  · exact absurd ‹_› hclosed
  · exact absurd ‹_› herror
  all_goals rfl

theorem CommandEnd.ofDetach (h : Inv s) (he : execCmdDetach s = .next u) : CommandEnd s u := by
  by_cases herror : s.mode = .error
  · simp only [execCmdDetach, herror] at he
    obtain rfl := Host.Outcome.next.inj he
    exact .answered _ rfl
  by_cases hclosed : s.mode = .closed
  · simp only [execCmdDetach, hclosed] at he
    obtain rfl := Host.Outcome.next.inj he
    exact .answered _ rfl
  rw [execCmdDetach_of_live herror hclosed] at he
  split at he <;> obtain rfl := Host.Outcome.next.inj he
  · exact .fatal _ h herror hclosed (by decide)
  · have hmode : s.mode.decodes = true := by
      have hdetached := h.mode.detachedModes
      cases hm : s.mode <;> simp_all [Mode.decodes]
    split
    · exact .rewind hmode
    · exact .passthrough hmode

theorem CommandEnd.ofAttach (h : Inv s) (he : execCmdAttach s = .next u) : CommandEnd s u := by
  cases hmode : s.mode <;> simp only [execCmdAttach, hmode] at he <;> obtain rfl := Host.Outcome.next.inj he
  case error | closed => exact .answered _ rfl
  case passthru => exact .attached hmode
  all_goals exact .fatal _ h (by simp [hmode]) (by simp [hmode]) (by decide)

theorem CommandEnd.ofClose (he : execCmdClose s = .next u) : CommandEnd s u := by
  cases hmode : s.mode <;> simp only [execCmdClose, hmode] at he <;> obtain rfl := Host.Outcome.next.inj he
  case closed => exact .answered _ rfl
  all_goals exact .closed (by simp [hmode])

/-- Where no command is in progress a step does nothing, or runs the next command (R63). -/
theorem step_command {t : State} (h : Inv s) (hphase : s.phase = .command) (hstep : step s = .next t) :
    t = s ∨ ∃ cmds u, CommandEnd { s with cmds := cmds } u ∧ t = settle u := by
  cases hcmds : s.cmds with
  | nil =>
    rw [step_of_no_command hphase hcmds] at hstep
    exact .inl (Host.Outcome.next.inj hstep).symm
  | cons w rest =>
    rw [step_of_command hphase hcmds] at hstep
    obtain ⟨i, u, hd, he, rfl⟩ := runValue_next hstep
    refine .inr ⟨rest, u, ?_, rfl⟩
    have h' : Inv { s with cmds := rest } := h.withPort rest s.responses
    rcases decode_command hd with ⟨count, hmax, rfl⟩ | rfl | rfl | rfl
    · exact .ofRead h' hphase hmax he
    · exact .ofDetach h' he
    · exact .ofAttach h' he
    · exact .ofClose he

/-- In a READ in progress that does not wait a format is expected. -/
theorem Inv.expectedFormat_some (h : Inv s) (hphase : s.phase ≠ .command) (hwaits : s.phase ≠ .waiting) :
    ∃ f, expectedFormat s = some f := by
  unfold expectedFormat
  split
  case h_1 => contradiction
  case h_2 => contradiction
  case h_3 hstep =>
    have hmode := (h.phase.atStep hstep).1
    split
    case h_4 hm | h_5 hm | h_6 hm | h_7 hm => simp [hm, Mode.decodes] at hmode
    all_goals exact ⟨_, rfl⟩
  all_goals exact ⟨_, rfl⟩

/-- What a step can do from a state that meets the invariant: nothing, a command, or an element of the READ in progress. -/
theorem step_cases {t : State} (h : Inv s) (hstep : step s = .next t) :
    (t = s ∧ (s.phase = .command ∨ s.phase = .waiting)) ∨
      (s.phase = .command ∧ ∃ cmds u, CommandEnd { s with cmds := cmds } u ∧ t = settle u) ∨
      (∃ f, expectedFormat s = some f) := by
  by_cases hphase : s.phase = .command
  · rcases step_command h hphase hstep with rfl | hcmd
    · exact .inl ⟨rfl, .inl hphase⟩
    · exact .inr (.inl ⟨hphase, hcmd⟩)
  by_cases hwaits : s.phase = .waiting
  · rw [step_of_waiting hwaits] at hstep
    exact .inl ⟨(Host.Outcome.next.inj hstep).symm, .inr hwaits⟩
  · exact .inr (.inr (h.expectedFormat_some hphase hwaits))

end

end Sys2Proof.Machine
end

section
/-! Emitting bytes and the staging buffer (R80, R81, R83, R270, R302). -/

namespace Sys2Proof.Machine

/-- The staging buffer and the response of a READ in progress (R40, R80, R81, R83, R290): bytes are staged only where the response
is full. -/
structure OutputOk (stage : List Byte) (stageLen stagePos rdCount : Nat) (rdResp : List Byte) : Prop where
  cursor : stagePos ≤ stageLen
  capacity : stageLen ≤ Config.stageCap
  emptyTogether : stagePos = stageLen → stageLen = 0
  written : stageLen ≤ stage.length
  stagedLast : rdResp.length < rdCount → stageLen = 0
  respFits : rdResp.length ≤ rdCount
  countFits : rdCount ≤ Config.readMax

def State.OutputOk (s : State) : Prop := Machine.OutputOk s.stage s.stageLen s.stagePos s.rdCount s.rdResp

/-- The response and STAGE while an element emits its bytes: STAGE is used only where the response is full. -/
structure Emitting (s : State) : Prop where
  cursor : s.stagePos = 0
  written : s.stageLen ≤ s.stage.length
  stagedLast : s.rdResp.length < s.rdCount → s.stageLen = 0
  respFits : s.rdResp.length ≤ s.rdCount

section
variable {s : State}

theorem emit_cases (b : Byte) (s : State) :
    (s.rdResp.length < s.rdCount ∧ emit b s = { winPut b s with rdResp := s.rdResp ++ [b] }) ∨
      (s.rdCount ≤ s.rdResp.length ∧
        emit b s = { winPut b s with stage := s.stage.take s.stageLen ++ [b], stageLen := s.stageLen + 1 }) := by
  rcases deliver_cases b (winPut b s) with ⟨hroom, h⟩ | ⟨hroom, h⟩
  · exact .inl ⟨Nat.lt_of_sub_pos hroom, h⟩
  · exact .inr ⟨Nat.le_of_sub_eq_zero hroom, h⟩

theorem Emitting.emit (h : Emitting s) (b : Byte) : Emitting (emit b s) := by
  obtain ⟨hcur, hwritten, hlast, hfits⟩ := h
  rcases emit_cases b s with ⟨hroom, he⟩ | ⟨hfull, he⟩ <;> rw [he]
  · have hempty := hlast hroom
    exact ⟨hcur, hwritten, fun _ => hempty, by simpa using hroom⟩
  · refine ⟨hcur, ?_, fun hroom => absurd hroom (Nat.not_lt.mpr hfull), hfits⟩
    simp [List.length_take_of_le hwritten]

/-- Every byte emitted is delivered or staged. -/
theorem emit_count (b : Byte) (s : State) :
    (emit b s).rdResp.length + (emit b s).stageLen = s.rdResp.length + s.stageLen + 1 := by
  rcases emit_cases b s with ⟨-, he⟩ | ⟨-, he⟩ <;>
    simp only [he, List.length_append, List.length_singleton, winPut_stageLen, winPut_rdResp] <;> omega

theorem emit_emittedBytes (h : Emitting s) (b : Byte) : emittedBytes (emit b s) = emittedBytes s ++ [b] := by
  rcases emit_cases b s with ⟨hroom, he⟩ | ⟨-, he⟩ <;> rw [he]
  · have hempty := h.stagedLast hroom
    simp [emittedBytes, outputStream, stagedBytes, h.cursor, hempty]
  · have htake : (s.stage.take s.stageLen).length = s.stageLen := List.length_take_of_le h.written
    have hstaged : bufSlice (s.stage.take s.stageLen ++ [b]) 0 (s.stageLen + 1) = bufSlice s.stage 0 s.stageLen ++ [b] := by
      rw [bufSlice_eq_take_drop (by simp [htake]), bufSlice_eq_take_drop (by simpa using h.written)]
      simp [List.take_of_length_le, htake]
    simp [emittedBytes, outputStream, stagedBytes, h.cursor, hstaged]

theorem Emitting.copy (h : Emitting s) (dist len : Nat) : Emitting (copy dist len s) := by
  induction len generalizing s with
  | zero => exact h
  | succ n ih => exact ih (h.emit _)

theorem copy_count (dist len : Nat) (s : State) :
    (copy dist len s).rdResp.length + (copy dist len s).stageLen = s.rdResp.length + s.stageLen + len := by
  induction len generalizing s with
  | zero => rfl
  | succ n ih =>
    rw [copy_succ, ih, emit_count]
    omega

theorem copy_emittedBytes (h : Emitting s) (dist len : Nat) :
    ∃ bs, emittedBytes (copy dist len s) = emittedBytes s ++ bs ∧ bs.length = len := by
  induction len generalizing s with
  | zero => exact ⟨[], by simp [copy], rfl⟩
  | succ n ih =>
    obtain ⟨bs, hbs, hlen⟩ := ih (h.emit (s.win.read (copySource dist s).toNat))
    exact ⟨_ :: bs, by rw [copy_succ, hbs, emit_emittedBytes h, List.append_assoc, List.singleton_append], by simp [hlen]⟩

/-- Where STAGE is empty an element may emit. -/
theorem State.OutputOk.emitting (h : s.OutputOk) (hempty : s.stageLen = 0) : Emitting s :=
  ⟨Nat.le_zero.mp (hempty ▸ h.cursor), h.written, h.stagedLast, h.respFits⟩

/-- Behind the bytes of an element: what room there was has been filled before STAGE (R81, R83). -/
theorem Emitting.outputOk (h : Emitting s) (hcapacity : s.stageLen ≤ Config.stageCap) (hcount : s.rdCount ≤ Config.readMax) :
    s.OutputOk :=
  ⟨by rw [h.cursor]; exact Nat.zero_le _, hcapacity, fun he => by rw [← he, h.cursor], h.written, h.stagedLast, h.respFits, hcount⟩

theorem State.OutputOk.emit (h : s.OutputOk) (hroom : 0 < s.room) (b : Byte) : (emit b s).OutputOk := by
  have hempty : s.stageLen = 0 := h.stagedLast (Nat.lt_of_sub_pos hroom)
  refine ((h.emitting hempty).emit b).outputOk ?_ (by simpa using h.countFits)
  rcases emit_cases b s with ⟨-, he⟩ | ⟨-, he⟩ <;> simp [he, hempty, Config.stageCap]

/-- A pair of at most 258 bytes stages at most 257 (R83, R254). -/
theorem State.OutputOk.copy (h : s.OutputOk) (hroom : 0 < s.room) {dist len : Nat} (hlen : len ≤ 258) :
    (copy dist len s).OutputOk := by
  have hempty : s.stageLen = 0 := h.stagedLast (Nat.lt_of_sub_pos hroom)
  have hcopied := (h.emitting hempty).copy dist len
  refine hcopied.outputOk ?_ (by simpa using h.countFits)
  have hcount := copy_count dist len s
  have hlast := hcopied.stagedLast
  rw [copy_rdCount] at hlast
  unfold State.room at hroom
  unfold Config.stageCap
  omega

/-- A READ drains the staged bytes as far as they fit (R302). -/
theorem drain_eq (s : State) : ∃ n, n = min s.room (s.stageLen - s.stagePos) ∧
    drain s = { s with rdResp := s.rdResp ++ bufSlice s.stage s.stagePos n,
                       stagePos := if s.stagePos + n = s.stageLen then 0 else s.stagePos + n,
                       stageLen := if s.stagePos + n = s.stageLen then 0 else s.stageLen } := by
  refine ⟨_, rfl, ?_⟩
  unfold drain
  dsimp only
  split <;> rfl

theorem drain_emittedBytes (h : s.stagePos ≤ s.stageLen) : emittedBytes (drain s) = emittedBytes s := by
  obtain ⟨n, hn, hd⟩ := drain_eq s
  have hsplit : s.stageLen - s.stagePos = n + (s.stageLen - (s.stagePos + n)) := by omega
  have hstaged : stagedBytes s = bufSlice s.stage s.stagePos n ++ bufSlice s.stage (s.stagePos + n) (s.stageLen - (s.stagePos + n)) := by
    rw [stagedBytes, hsplit, bufSlice_add]
  rw [emittedBytes, emittedBytes, hstaged, hd]
  by_cases hall : s.stagePos + n = s.stageLen
  · simp [hall, stagedBytes, outputStream]
  · simp [hall, stagedBytes, outputStream]

end

end Sys2Proof.Machine
end

section
/-! Every step keeps the invariant: first what the invariant comes to in each kind of state, then each way an element or a command
can end. -/

namespace Sys2Proof.Machine

/-! ## The parts of the invariant -/

section
variable {s u : State}

theorem State.codesOk_of_not_huff (hmode : s.mode ≠ .huff) : s.CodesOk ↔ s.ll = none ∧ s.dist = .absent := by
  rw [State.CodesOk, if_neg hmode]

theorem State.codesOk_of_huff (hmode : s.mode = .huff) :
    s.CodesOk ↔ (∃ c, s.ll = some c ∧ c.Built s.params.tableBits .litlen) ∧
      (s.dist = .noCode ∨ ∃ c, s.dist = .code c ∧ c.Built s.params.tableBits .dist) := by
  rw [State.CodesOk, if_pos hmode]

/-- What the invariant says of a CORE that decodes a READ, but for the work of the step in progress. -/
structure Decoding (s : State) : Prop where
  params : s.params.inRange
  sound : s.input.Sound s.params.inCap
  filled : s.input.Filled
  window : s.win.wf = true
  codes : s.CodesOk
  decodes : s.mode.decodes = true
  attached : s.detached = false
  noError : s.err = ⟨.noError, .empty⟩
  storedLeft : s.mode = .stored → s.storedRem ≠ 0#16 ∧ s.input.accN % 8 = 0
  storedNone : s.mode ≠ .stored → s.storedRem = 0#16
  output : s.OutputOk

theorem Mode.ne_of_decodes {m m' : Mode} (h : m.decodes = true) (h' : m'.decodes = false) : m ≠ m' := by
  rintro rfl
  simp [h] at h'

theorem Decoding.inv (h : Decoding s) (hphase : s.PhaseOk) (hempty : s.phase ≠ .command → s.stageLen = 0) : Inv s := by
  have herror : s.mode ≠ .error := Mode.ne_of_decodes h.decodes rfl
  have hclosed : s.mode ≠ .closed := Mode.ne_of_decodes h.decodes rfl
  have hpassthru : s.mode ≠ .passthru := Mode.ne_of_decodes h.decodes rfl
  have hreleased : s.mode ≠ .released := Mode.ne_of_decodes h.decodes rfl
  obtain ⟨hcur, hcap, htogether, hwritten, -, -, -⟩ := h.output
  refine ⟨h.params, h.sound, h.window, h.codes, ?mode, ?stage, hphase⟩
  case mode =>
    refine ⟨fun hm => (h.storedLeft hm).1, fun hm _ _ => h.storedNone hm, fun _ => h.attached, fun hm => ?_, fun _ _ => h.noError,
      fun hm => absurd hm herror, fun hm => ?_, fun _ _ => h.filled⟩
    · rcases hm with hm | hm <;> contradiction
    · rcases hm with hm | hm | hm
      · exact (h.storedLeft hm).2
      · contradiction
      · contradiction
  case stage =>
    exact ⟨hcur, hcap, htogether, fun _ _ => hwritten, hempty, fun hm => absurd hm hpassthru⟩

theorem Inv.outputOk (h : Inv s) (hd : s.mode.decodes = true) (hphase : s.phase ≠ .command) : s.OutputOk :=
  ⟨h.stage.cursor, h.stage.capacity, h.stage.emptyTogether,
    h.stage.written (Mode.ne_of_decodes hd rfl) (Mode.ne_of_decodes hd rfl), fun _ => h.stage.emptyInStep hphase, h.phase.respFits,
    h.phase.countFits⟩

/-- With no command in progress. -/
theorem State.PhaseOk.ofCommand (hphase : s.phase = .command) (hcount : s.rdCount = 0) (hresp : s.rdResp = [])
    (hdirect : s.input.direct = []) (hlen : s.len = 0) (hdyn : s.dyn = DynWork.none) : s.PhaseOk := by
  refine ⟨fun _ => ⟨hcount, hresp⟩, by simp [hresp], by simp [hcount], fun _ => hdirect, .inl (by simp [hdirect]), ?_, ?_, ?_, ?_,
    fun _ _ => hlen, ?_, fun _ _ => hdyn, ?_⟩ <;> simp [hphase]

/-- A READ of a CORE that decodes is answered. -/
theorem Decoding.answered (h : Decoding s) (r : Response) (hdirect : s.input.direct = []) (hlen : s.len = 0)
    (hdyn : s.dyn = DynWork.none) : Inv (respond r s) := by
  obtain ⟨hparams, hsound, hfilled, hwin, hcodes, hdecodes, hattached, herr, hstored, hnone, hout⟩ := h
  have hout' : (respond r s).OutputOk :=
    ⟨hout.cursor, hout.capacity, hout.emptyTogether, hout.written, fun hroom => absurd hroom (lt_irrefl 0), le_refl _, Nat.zero_le _⟩
  exact Decoding.inv ⟨hparams, hsound, hfilled, hwin, hcodes, hdecodes, hattached, herr, hstored, hnone, hout'⟩
    (.ofCommand rfl rfl rfl hdirect hlen hdyn) (fun hphase => absurd rfl hphase)

/-- At a step boundary of a READ that decodes, before READ's loop test (R300). -/
structure StepEnd (s : State) : Prop extends Decoding s where
  phase : s.phase = .step
  noDirect : s.mode ≠ .stored → s.input.direct = []
  directFits : s.input.direct.length ≤ s.storedWant
  noPair : s.len = 0
  noSequence : s.dyn = DynWork.none

/-- READ's loop test keeps the invariant: the READ is answered, or its response has room and the stream goes on (R300). -/
theorem StepEnd.settle_inv (h : StepEnd s) : Inv (settle s) := by
  obtain ⟨hdec, hphase, hnoDirect, hfits, hlen, hdyn⟩ := h
  rcases settle_cases s with ⟨-, hdone, hr⟩ | ⟨hgoes, hr⟩ <;> rw [hr]
  · refine hdec.answered _ ?_ hlen hdyn
    rcases hdone with hfull | heos
    · simpa [State.storedWant, hfull] using hfits
    · refine hnoDirect ?_
      have hidle : s.mode = .idle := by simp [State.atEos] at heos; exact heos.1.1
      simp [hidle]
  · obtain ⟨hroom, heos⟩ := not_or.mp fun hdone => hgoes ⟨hphase, hdone⟩
    have hroom : 0 < s.room := Nat.pos_of_ne_zero hroom
    have hempty : s.stageLen = 0 := hdec.output.stagedLast (Nat.lt_of_sub_pos hroom)
    refine hdec.inv ?_ fun _ => hempty
    refine ⟨?_, hdec.output.respFits, hdec.output.countFits, fun hs => hnoDirect fun hm => hs ⟨hphase, hm⟩, .inl hfits,
      fun _ => ⟨hdec.decodes, hroom, by simpa using heos⟩, ?_, ?_, ?_, fun _ _ => hlen, ?_, fun _ _ => hdyn, ?_⟩ <;> simp [hphase]

/-! ## The fatal error (R345) -/

theorem Inv.ofFatal {c : Cause} (i : ErrInfo) (hparams : s.params.inRange) (hsound : s.input.Sound s.params.inCap)
    (hc : c ≠ .noError) (hcur : s.stagePos ≤ s.stageLen) (hcap : s.stageLen ≤ Config.stageCap)
    (htogether : s.stagePos = s.stageLen → s.stageLen = 0) : Inv (fatal c i s) := by
  have hdel := hsound.delivered
  refine ⟨hparams, ⟨hsound.accBits, hsound.accClear, hsound.cursor, hsound.capacity, ?_, hsound.received, hsound.sourceEnd, ?_⟩, rfl,
    ⟨rfl, rfl⟩, ⟨?_, ?_, ?_, ?_, ?_, fun _ => hc, ?_, ?_⟩, ⟨hcur, hcap, htogether, ?_, ?_, ?_⟩,
    .ofCommand rfl rfl rfl rfl rfl rfl⟩
  case refine_1 =>
    rw [fatal_input]
    simp only [List.length_nil]
    omega
  all_goals simp [Mode.decodes]

/-! ## The ends of an element -/

/-- The room of the response inside an element (R291). -/
theorem Inv.room_pos {f : Format} (h : Inv s) (hf : ExpectedIn s f) : 0 < s.room := by
  cases f with
  | blockHeader | storedByte | litlenSymbol => exact (h.phase.atStep hf.1).2.1
  | storedHeader => exact (h.phase.inHeader (.inl hf)).2
  | dynamicHeader => exact (h.phase.inHeader (.inr (.inl hf))).2
  | clenSymbol => exact (h.phase.inHeader (.inr (.inr hf))).2
  | distSymbol => exact (h.phase.inPair hf).2.1
  | command => exact absurd hf id

theorem ExpectedIn.phase_ne {f : Format} (hf : ExpectedIn s f) : s.phase ≠ .command ∧ s.phase ≠ .waiting := by
  cases f <;> simp_all [ExpectedIn]

/-- A READ in progress whose element has been read, and not yet executed. -/
structure Running (s : State) : Prop extends Decoding s where
  room : 0 < s.room
  inRead : s.phase ≠ .command
  noDirect : ¬(s.phase = .step ∧ s.mode = .stored) → s.input.direct = []
  storedFits : s.phase = .step → s.mode = .stored → s.input.direct.length < s.storedWant
  inHeader : s.phase = .storedHeader ∨ s.phase = .dynamicHeader ∨ s.phase = .clenSymbol → s.mode = .idle
  inPair : s.phase = .distSymbol → s.mode = .huff ∧ s.len ≤ 258
  noPair : s.phase ≠ .distSymbol → s.len = 0
  noSequence : s.phase ≠ .clenSymbol → s.dyn = DynWork.none

theorem Inv.running {f : Format} (h : Inv s) (hf : ExpectedIn s f) {inp : Input} (hl : s.input.Leads s.params.inCap inp)
    (hleft : s.Left inp) : Running { s with input := inp } := by
  have hd := h.decodes_of_expected hf
  have herror : s.mode ≠ .error := Mode.ne_of_decodes hd rfl
  have hclosed : s.mode ≠ .closed := Mode.ne_of_decodes hd rfl
  have hheader : s.phase = .storedHeader ∨ s.phase = .dynamicHeader ∨ s.phase = .clenSymbol → s.mode = .idle :=
    fun hp => (h.phase.inHeader hp).1
  have hstored : s.mode = .stored → s.phase = .step := by
    intro hm
    cases f with
    | blockHeader | storedByte | litlenSymbol => exact hf.1
    | storedHeader => simp [hheader (.inl hf)] at hm
    | dynamicHeader => simp [hheader (.inr (.inl hf))] at hm
    | clenSymbol => simp [hheader (.inr (.inr hf))] at hm
    | distSymbol => simp [(h.phase.inPair hf).1] at hm
    | command => exact absurd hf id
  refine ⟨⟨h.params, hl.sound, hl.filled, h.window, h.codes, hd, h.mode.attached hd, h.mode.noError herror hclosed, fun hm => ?_,
    fun hm => h.mode.storedNone hm herror hclosed, h.outputOk hd hf.phase_ne.1⟩, h.room_pos hf, hf.phase_ne.1, fun hs => ?_,
    fun hp hm => ?_, hheader, fun hp => ?_, fun hp => h.phase.noPair hp hf.phase_ne.2,
    fun hp => h.phase.noSequence hp hf.phase_ne.2⟩
  · rw [State.Left, if_pos ⟨hstored hm, hm⟩] at hleft
    exact ⟨h.mode.storedLeft hm, hleft.aligned⟩
  · rw [State.Left, if_neg hs] at hleft
    exact hleft.2.2.2
  · rw [State.Left, if_pos ⟨hp, hm⟩] at hleft
    exact hleft.fits
  · obtain ⟨hm, -, -, -, hlen⟩ := h.phase.inPair hp
    exact ⟨hm, hlen⟩

theorem alignToByte_eq (inp : Input) : alignToByte inp = inp.dropBits (inp.accN % 8) := rfl

theorem Input.Leads.alignToByte {cap : Nat} {inp : Input} (hs : inp.Sound cap) (hf : inp.Filled) :
    inp.Leads cap (alignToByte inp) :=
  .dropBits hs hf (Nat.mod_le _ _)

section
variable (h : Running s)
include h

theorem Running.empty : s.stageLen = 0 := h.output.stagedLast (Nat.lt_of_sub_pos h.room)

theorem Running.direct_of_mode (hm : s.mode ≠ .stored) : s.input.direct = [] := h.noDirect fun hs => hm hs.2

theorem Running.storedRem_of_idle (hm : s.mode = .idle) : s.storedRem = 0#16 := h.storedNone (by simp [hm])

theorem Running.codes_of_idle (hm : s.mode = .idle) : s.ll = none ∧ s.dist = .absent :=
  (State.codesOk_of_not_huff (by simp [hm])).mp h.codes

/-- A stored byte is emitted and counted off (R217, R218). -/
theorem Running.storedByte (b : Byte) (hphase : s.phase = .step) (hmode : s.mode = .stored) :
    StepEnd { emit b s with storedRem := s.storedRem - 1#16, mode := if s.storedRem = 1#16 then .idle else s.mode } := by
  have hcodes := (State.codesOk_of_not_huff (by simp [hmode])).mp h.codes
  obtain ⟨hrem, halign⟩ := h.storedLeft hmode
  have hrem' : s.storedRem.toNat ≠ 0 := fun hz => hrem (BitVec.eq_of_toNat_eq hz)
  have hsub : (s.storedRem - 1#16).toNat = s.storedRem.toNat - 1 := by
    rw [BitVec.toNat_sub_of_le (by rw [BitVec.le_def]; simp; omega)]
    rfl
  have hfits := h.storedFits hphase hmode
  have hroom : (emit b s).room = s.room - 1 := by
    have := h.room
    rcases emit_cases b s with ⟨-, he⟩ | ⟨hfull, -⟩
    · simp [State.room, he]
      omega
    · unfold State.room at this
      omega
  have hdecodes : (if s.storedRem = 1#16 then Mode.idle else s.mode).decodes = true := by
    split
    · rfl
    · exact h.decodes
  refine ⟨⟨by simpa using h.params, by simpa using h.sound, by simpa using h.filled, emit_wf b h.window, ?codes, hdecodes,
    by simpa using h.attached, by simpa using h.noError, ?left, ?none, h.output.emit h.room b⟩, by simpa using hphase, ?direct, ?fits,
    by simpa using h.noPair (by simp [hphase]), by simpa using h.noSequence (by simp [hphase])⟩
  case codes =>
    rw [State.codesOk_of_not_huff (by dsimp only; split <;> simp [hmode])]
    simpa using hcodes
  case left =>
    dsimp only
    intro hm
    refine ⟨fun hz => ?_, by simpa using halign⟩
    have hone : s.storedRem.toNat = 1 := by
      have := congrArg BitVec.toNat hz
      simp [hsub] at this
      omega
    rw [if_pos (BitVec.eq_of_toNat_eq hone)] at hm
    simp at hm
  case none =>
    dsimp only
    intro hm
    split at hm
    · rename_i hone
      simp [hone]
    · exact absurd hmode hm
  case direct =>
    dsimp only
    intro hm
    split at hm
    · rename_i hone
      have hlast : s.storedRem.toNat = 1 := by rw [hone]; rfl
      unfold State.storedWant at hfits
      simpa using List.length_eq_zero_iff.mp (show s.input.direct.length = 0 by omega)
    · exact absurd hmode hm
  case fits =>
    have hwant :
        ({ emit b s with
            storedRem := s.storedRem - 1#16
            mode := if s.storedRem = 1#16 then .idle else s.mode } : State).storedWant = s.storedWant - 1 := by
      have : min (s.storedRem - 1#16).toNat (emit b s).room = min s.storedRem.toNat s.room - 1 := by
        rw [hsub, hroom]
        omega
      exact this
    rw [hwant]
    simp only [emit_input]
    omega

theorem Running.literal (b : Byte) (hphase : s.phase = .step) (hmode : s.mode = .huff) : StepEnd (emit b s) := by
  have hcodes := (State.codesOk_of_huff hmode).mp h.codes
  have hdirect : (emit b s).input.direct = [] := by simpa using h.direct_of_mode (by simp [hmode])
  exact ⟨⟨by simpa using h.params, by simpa using h.sound, by simpa using h.filled, emit_wf b h.window,
    (State.codesOk_of_huff (by simpa using hmode)).mpr (by simpa using hcodes), by simp [hmode, Mode.decodes],
    by simpa using h.attached, by simpa using h.noError, by simp [hmode], fun _ => by simpa using h.storedNone (by simp [hmode]),
    h.output.emit h.room b⟩, by simpa using hphase, fun _ => hdirect, by rw [hdirect]; exact Nat.zero_le _,
    by simpa using h.noPair (by simp [hphase]), by simpa using h.noSequence (by simp [hphase])⟩

theorem Running.pair (dist : Nat) (hphase : s.phase = .distSymbol) :
    StepEnd { copy dist s.len s with len := 0, phase := .step } := by
  obtain ⟨hmode, hlen⟩ := h.inPair hphase
  have hcodes := (State.codesOk_of_huff hmode).mp h.codes
  have hdirect : (copy dist s.len s).input.direct = [] := by simpa using h.direct_of_mode (by simp [hmode])
  exact ⟨⟨by simpa using h.params, by simpa using h.sound, by simpa using h.filled, copy_wf dist s.len h.window,
    (State.codesOk_of_huff (by simpa using hmode)).mpr (by simpa using hcodes), by simp [hmode, Mode.decodes],
    by simpa using h.attached, by simpa using h.noError, by simp [hmode], fun _ => by simpa using h.storedNone (by simp [hmode]),
    h.output.copy h.room hlen⟩, rfl, fun _ => hdirect, by dsimp only; rw [hdirect]; exact Nat.zero_le _, rfl,
    by simpa using h.noSequence (by simp [hphase])⟩

/-- The state goes on to another phase of the same READ. -/
theorem Running.goesOn {fin : Bool} {inp : Input} {p : Phase} {d : DynWork} {len : Nat}
    (hl : s.input.Leads s.params.inCap inp) (hmode : s.mode ≠ .stored)
    (hphase : State.PhaseOk { s with final := fin, input := inp, phase := p, dyn := d, len := len }) :
    Inv { s with final := fin, input := inp, phase := p, dyn := d, len := len } := by
  have hdec : Decoding { s with final := fin, input := inp, phase := p, dyn := d, len := len } :=
    ⟨h.params, hl.sound, hl.filled, h.window, h.codes, h.decodes, h.attached, h.noError, fun hm => absurd hm hmode, h.storedNone,
      h.output⟩
  exact hdec.inv hphase fun _ => h.empty

theorem Running.waits (hdirect : s.input.direct = []) : Inv { s with phase := .waiting } := by
  have hdec : Decoding { s with phase := .waiting } :=
    ⟨h.params, h.sound, h.filled, h.window, h.codes, h.decodes, h.attached, h.noError, h.storedLeft, h.storedNone, h.output⟩
  refine hdec.inv ⟨nofun, h.output.respFits, h.output.countFits, fun _ => hdirect, .inr nofun, nofun, nofun, nofun, nofun,
    fun _ hw => absurd rfl hw, nofun, fun _ hw => absurd rfl hw, fun _ => .inl h.decodes⟩ fun _ => h.empty

/-- Every way an element can end keeps the invariant, behind READ's loop test. -/
theorem ElementEnd.inv (he : ElementEnd s u) : Inv (settle u) := by
  have hleads : s.input.Leads s.params.inCap s.input := .refl h.sound h.filled
  obtain ⟨hcur, hcap, htogether, -, -, hresp, hcount⟩ := h.output
  cases he with
  | fault c i fin hc hfin =>
    rw [settle_of_phase_ne (by simp)]
    exact .ofFatal i h.params h.sound hc hcur hcap htogether
  | waits hdirect =>
    rw [settle_of_phase_ne (by simp)]
    exact h.waits hdirect
  | storedBlock fin hfin hphase hmode =>
    rw [settle_of_phase_ne (by simp)]
    have hdirect : s.input.direct = [] := h.direct_of_mode (by simp [hmode])
    refine h.goesOn (.alignToByte h.sound h.filled) (by simp [hmode])
      ⟨nofun, hresp, hcount, fun _ => hdirect, .inr nofun, nofun, fun _ => ⟨hmode, h.room⟩, fun _ => ?_, nofun,
        fun _ _ => h.noPair (by simp [hphase]), nofun, fun _ _ => h.noSequence (by simp [hphase]), nofun⟩
    simp only [Machine.alignToByte]
    omega
  | dynamicBlock fin hfin hphase hmode =>
    rw [settle_of_phase_ne (by simp)]
    have hdirect : s.input.direct = [] := h.direct_of_mode (by simp [hmode])
    exact h.goesOn hleads (by simp [hmode])
      ⟨nofun, hresp, hcount, fun _ => hdirect, .inr nofun, nofun, fun _ => ⟨hmode, h.room⟩, nofun, nofun,
        fun _ _ => h.noPair (by simp [hphase]), nofun, fun _ _ => h.noSequence (by simp [hphase]), nofun⟩
  | sequence d hphase hd =>
    rw [settle_of_phase_ne (by simp)]
    have hmode : s.mode = .idle := h.inHeader (.inr hphase)
    have hdirect : s.input.direct = [] := h.direct_of_mode (by simp [hmode])
    have hlen : s.len = 0 := h.noPair (by rcases hphase with hp | hp <;> simp [hp])
    exact h.goesOn hleads (by simp [hmode])
      ⟨nofun, hresp, hcount, fun _ => hdirect, .inr nofun, nofun, fun _ => ⟨hmode, h.room⟩, nofun, nofun, fun _ _ => hlen,
        fun _ => hd, fun hne => absurd rfl hne, nofun⟩
  | length len hphase hmode hlow hhigh hdist =>
    rw [settle_of_phase_ne (by simp)]
    have hdirect : s.input.direct = [] := h.direct_of_mode (by simp [hmode])
    exact h.goesOn hleads (by simp [hmode])
      ⟨nofun, hresp, hcount, fun _ => hdirect, .inr nofun, nofun, nofun, nofun, fun _ => ⟨hmode, h.room, hdist, hlow, hhigh⟩,
        fun hne => absurd rfl hne, nofun, fun _ _ => h.noSequence (by simp [hphase]), nofun⟩
  | fixedBlock fin hfin hphase hmode =>
    have hdirect : s.input.direct = [] := h.direct_of_mode (by simp [hmode])
    have hcodes : (∃ c, some (fixedLL s.params.tableBits) = some c ∧ c.Built s.params.tableBits .litlen) ∧
        (DistCode.code (fixedDist s.params.tableBits) = .noCode ∨
          ∃ c, DistCode.code (fixedDist s.params.tableBits) = .code c ∧ c.Built s.params.tableBits .dist) :=
      ⟨⟨_, rfl, mkCode_built _ fixedLitlenTree_full⟩, .inr ⟨_, rfl, mkCode_built _ fixedDistTree_full⟩⟩
    refine StepEnd.settle_inv ⟨⟨h.params, h.sound, h.filled, h.window, (State.codesOk_of_huff rfl).mpr hcodes, rfl, h.attached,
      h.noError, nofun, fun _ => h.storedRem_of_idle hmode, h.output⟩, hphase, fun _ => hdirect, by simp [hdirect],
      h.noPair (by simp [hphase]), h.noSequence (by simp [hphase])⟩
  | storedOpened len hphase halign =>
    have hmode : s.mode = .idle := h.inHeader (.inl hphase)
    have hdirect : s.input.direct = [] := h.direct_of_mode (by simp [hmode])
    refine StepEnd.settle_inv ⟨⟨h.params, h.sound, h.filled, h.window, ?_, ?_, h.attached, h.noError, fun hm => ⟨?_, halign⟩,
      fun hm => ?_, h.output⟩, rfl, fun _ => hdirect, by simp [hdirect], h.noPair (by simp [hphase]),
      h.noSequence (by simp [hphase])⟩
    · exact (State.codesOk_of_not_huff (by dsimp only; split <;> simp)).mpr (h.codes_of_idle hmode)
    · dsimp only
      split <;> rfl
    · rintro rfl
      simp at hm
    · by_contra hlen
      exact hm (if_neg hlen)
  | storedByte b hphase hmode => exact (h.storedByte b hphase hmode).settle_inv
  | codes ll dist hphase hll hdist =>
    have hmode : s.mode = .idle := h.inHeader (.inr (.inr hphase))
    have hdirect : s.input.direct = [] := h.direct_of_mode (by simp [hmode])
    exact StepEnd.settle_inv ⟨⟨h.params, h.sound, h.filled, h.window, (State.codesOk_of_huff rfl).mpr ⟨⟨ll, rfl, hll⟩, hdist⟩, rfl,
      h.attached, h.noError, nofun, fun _ => h.storedRem_of_idle hmode, h.output⟩, rfl, fun _ => hdirect, by simp [hdirect],
      h.noPair (by simp [hphase]), rfl⟩
  | literal b hphase hmode => exact (h.literal b hphase hmode).settle_inv
  | endOfBlock hphase hmode =>
    have hdirect : s.input.direct = [] := h.direct_of_mode (by simp [hmode])
    exact StepEnd.settle_inv ⟨⟨h.params, h.sound, h.filled, h.window, (State.codesOk_of_not_huff (by simp)).mpr ⟨rfl, rfl⟩, rfl,
      h.attached, h.noError, nofun, fun _ => h.storedNone (by simp [hmode]), h.output⟩, hphase, fun _ => hdirect, by simp [hdirect],
      h.noPair (by simp [hphase]), h.noSequence (by simp [hphase])⟩
  | pair dist hphase => exact (h.pair dist hphase).settle_inv

end

end

end Sys2Proof.Machine
end

section
/-! The invariant holds after reset, every way a command can end keeps it, and so does every step. -/

namespace Sys2Proof.Machine

/-- Settles O48: nothing is buffered, staged or in progress after reset. -/
theorem invAfterReset : Obligations.InvAfterReset := by
  intro p src cmds hparams hpos
  have hsound : (Input.reset src).Sound p.inCap :=
    ⟨Nat.zero_le _, Nat.one_pos, le_refl _, Nat.zero_le _, by simp [Input.reset], Nat.zero_le _, hpos, fun hne => absurd rfl hne⟩
  have hout : (State.construct p src cmds).OutputOk :=
    ⟨le_refl _, Nat.zero_le _, fun _ => rfl, le_refl _, fun _ => rfl, le_refl _, Nat.zero_le _⟩
  have hdec : Decoding (State.construct p src cmds) :=
    ⟨hparams, hsound, le_refl _, rfl, (State.codesOk_of_not_huff (by simp [State.construct])).mpr ⟨rfl, rfl⟩,
      rfl, rfl, rfl, nofun, fun _ => rfl, hout⟩
  refine ⟨hdec.inv (.ofCommand rfl rfl rfl rfl rfl rfl) fun hne => absurd rfl hne, ?_⟩
  refine ⟨streamBits (src.data.take src.pos), ?_⟩
  simp [State.construct, Input.reset, Input.ahead_eq, Input.buffered, Source.rest, bitsLsbFirst, ← streamBits_append]

section
variable {s u : State} (h : Inv s)
include h

theorem Inv.noDirect_of_command (hphase : s.phase = .command) : s.input.direct = [] := h.phase.noDirect (by simp [hphase])

/-- A READ is accepted (R300, R302). -/
theorem Inv.read {count : Nat} (hphase : s.phase = .command) (hmode : s.mode.decodes = true) (hmax : count ≤ Config.readMax) :
    StepEnd (drain { s with phase := .step, rdCount := count, rdResp := [] }) := by
  have herror : s.mode ≠ .error := Mode.ne_of_decodes hmode rfl
  have hclosed : s.mode ≠ .closed := Mode.ne_of_decodes hmode rfl
  have hdirect := h.noDirect_of_command hphase
  have hcur := h.stage.cursor
  have hout : (drain { s with phase := .step, rdCount := count, rdResp := [] }).OutputOk := by
    obtain ⟨n, hn, hd⟩ := drain_eq { s with phase := .step, rdCount := count, rdResp := [] }
    have hcap := h.stage.capacity
    have hwritten := h.stage.written herror hclosed
    simp only [State.room, List.length_nil, Nat.sub_zero] at hn
    rw [hd, State.OutputOk]
    by_cases hall : s.stagePos + n = s.stageLen
    · simp only [hall, if_true, List.nil_append]
      exact ⟨le_refl _, Nat.zero_le _, fun _ => rfl, Nat.zero_le _, fun _ => rfl, by simp; omega, hmax⟩
    · simp only [hall, if_false, List.nil_append]
      exact ⟨by omega, hcap, fun he => absurd he hall, hwritten, fun hroom => by simp at hroom; omega, by simp; omega, hmax⟩
  have hcodes : (drain { s with phase := .step, rdCount := count, rdResp := [] }).CodesOk := by
    by_cases hm : s.mode = .huff
    · exact (State.codesOk_of_huff (by simpa using hm)).mpr (by simpa using (State.codesOk_of_huff hm).mp h.codes)
    · exact (State.codesOk_of_not_huff (by simpa using hm)).mpr (by simpa using (State.codesOk_of_not_huff hm).mp h.codes)
  refine ⟨⟨?_, ?_, ?_, ?_, hcodes, ?_, ?_, ?_, ?_, ?_, hout⟩, ?_, ?_, ?_, ?_, ?_⟩ <;>
    simp only [drain_params, drain_input, drain_win, drain_mode, drain_detached, drain_err, drain_storedRem, drain_phase,
      drain_len, drain_dyn]
  · exact h.params
  · exact h.input
  · exact h.mode.filled herror hclosed
  · exact h.window
  · exact hmode
  · exact h.mode.attached hmode
  · exact h.mode.noError herror hclosed
  · exact fun hm => ⟨h.mode.storedLeft hm, h.mode.aligned (.inl hm)⟩
  · exact fun hm => h.mode.storedNone hm herror hclosed
  · exact fun _ => hdirect
  · rw [hdirect]
    exact Nat.zero_le _
  · exact h.phase.noPair (by simp [hphase]) (by simp [hphase])
  · exact h.phase.noSequence (by simp [hphase]) (by simp [hphase])

/-- A passthrough READ's input layer (R322). -/
theorem Inv.withInput {inp : Input} (hl : s.input.Leads s.params.inCap inp)
    (halign : inp.accN % 8 = 0) (hd : inp.direct = []) (hphase : s.phase = .command) : Inv { s with input := inp } := by
  obtain ⟨hstored, hnone, hattached, hdetached, hnoError, hhas, -, -⟩ := h.mode
  obtain ⟨_, _, _, _, _, _⟩ := h.stage
  refine ⟨h.params, hl.sound, h.window, h.codes, ⟨hstored, hnone, hattached, hdetached, hnoError, hhas, fun _ => halign,
    fun _ _ => hl.filled⟩, ⟨‹_›, ‹_›, ‹_›, ‹_›, ‹_›, ‹_›⟩, ?_⟩
  obtain ⟨hcount, hresp⟩ := h.phase.noCommand hphase
  exact .ofCommand hphase hcount hresp hd (h.phase.noPair (by simp [hphase]) (by simp [hphase]))
    (h.phase.noSequence (by simp [hphase]) (by simp [hphase]))

/-- A passthrough READ waits (R61). -/
theorem Inv.waits (hmode : s.mode = .passthru) (hphase : s.phase = .command) : Inv { s with phase := .waiting } := by
  obtain ⟨_, _, _, _, _, _, _, _⟩ := h.mode
  obtain ⟨hcur, hcap, htogether, hwritten, -, hdetached⟩ := h.stage
  exact ⟨h.params, h.input, h.window, h.codes, ⟨‹_›, ‹_›, ‹_›, ‹_›, ‹_›, ‹_›, ‹_›, ‹_›⟩,
    ⟨hcur, hcap, htogether, hwritten, fun _ => hdetached hmode, hdetached⟩,
    ⟨nofun, h.phase.respFits, h.phase.countFits, fun _ => h.noDirect_of_command hphase, .inr nofun, nofun, nofun, nofun, nofun,
      fun _ hw => absurd rfl hw, nofun, fun _ hw => absurd rfl hw, fun _ => .inr hmode⟩⟩

/-- CORE is detached, with nothing staged, decoded or in progress, and the source is left at a byte boundary (R311 to R313). -/
theorem Inv.detached {m : Mode} {inp : Input} (hmode : s.mode.decodes = true) (hphase : s.phase = .command)
    (hm : m = .passthru ∨ m = .released) (hs : inp.Sound s.params.inCap) (hf : inp.Filled) (halign : inp.accN % 8 = 0)
    (hd : inp.direct = []) (r : Response) : Inv (respond r { detachCommon s with mode := m, input := inp }) := by
  have hne : m ≠ .huff ∧ m ≠ .stored ∧ m ≠ .error ∧ m.decodes ≠ true := by rcases hm with rfl | rfl <;> decide
  obtain ⟨hhuff, hstored, herror, hdecodes⟩ := hne
  have hlen := h.phase.noPair (by simp [hphase]) (by simp [hphase])
  have hdyn := h.phase.noSequence (by simp [hphase]) (by simp [hphase])
  have hnoError := h.mode.noError (Mode.ne_of_decodes hmode rfl) (Mode.ne_of_decodes hmode rfl)
  exact ⟨h.params, hs, h.window, (State.codesOk_of_not_huff hhuff).mpr ⟨rfl, rfl⟩,
    ⟨fun hm => absurd hm hstored, fun _ _ _ => rfl, fun hm => absurd hm hdecodes, fun _ => rfl, fun _ _ => hnoError,
      fun hm => absurd hm herror, fun _ => halign, fun _ _ => hf⟩,
    ⟨le_refl _, Nat.zero_le _, fun _ => rfl, fun _ _ => Nat.zero_le _, fun _ => rfl, fun _ => rfl⟩,
    .ofCommand rfl rfl rfl hd hlen hdyn⟩

/-- After the rewind CORE holds nothing, and the source is back at the first unconsumed byte (R313). -/
theorem Inv.rewind_sound (hphase : s.phase = .command) :
    (detachRewind (detachCommon s)).input.Sound s.params.inCap := by
  have hd := h.noDirect_of_command hphase
  refine ⟨Nat.zero_le _, Nat.one_pos, le_refl _, Nat.zero_le _, ?_, Nat.zero_le _, ?_, fun _ => ⟨rfl, rfl⟩⟩
  · simp [alignToByte, hd]
  · simp only [detachRewind_input, srcUnread]
    exact (Nat.sub_le _ _).trans h.input.sourceEnd

/-- Every way a command can end keeps the invariant, behind READ's loop test. -/
theorem CommandEnd.inv (hphase : s.phase = .command) (he : CommandEnd s u) : Inv (settle u) := by
  have hd := h.noDirect_of_command hphase
  have hlen := h.phase.noPair (by simp [hphase]) (by simp [hphase])
  have hdyn := h.phase.noSequence (by simp [hphase]) (by simp [hphase])
  cases he with
  | answered r hdata =>
    rw [settle_of_phase_ne (by simp)]
    exact h.answered hphase r
  | fault c i inp hl herror hclosed hc =>
    rw [settle_of_phase_ne (by simp)]
    exact .ofFatal i h.params hl.sound hc h.stage.cursor h.stage.capacity h.stage.emptyTogether
  | reads count hmode hpos hmax => exact (h.read hphase hmode hmax).settle_inv
  | forwarded r inp hl halign hd' hmode =>
    rw [settle_of_phase_ne (by simp)]
    exact (h.withInput hl halign hd' hphase).answered hphase r
  | waits inp hl halign hd' hmode =>
    rw [settle_of_phase_ne (by simp)]
    exact (h.withInput hl halign hd' hphase).waits hmode hphase
  | passthrough hmode =>
    rw [settle_of_phase_ne (by simp)]
    have hf : s.input.Filled := h.filled_of_decodes hmode
    have hl : s.input.Leads s.params.inCap (alignToByte s.input) := .alignToByte h.input hf
    exact h.detached hmode hphase (.inl rfl) hl.sound hl.filled (by simp only [alignToByte]; omega) hd .done
  | rewind hmode =>
    rw [settle_of_phase_ne (by simp)]
    exact h.detached hmode hphase (.inr rfl) (h.rewind_sound hphase) (Nat.zero_le _) rfl hd .done
  | attached hmode =>
    rw [settle_of_phase_ne (by simp)]
    have herr := h.mode.noError (by simp [hmode]) (by simp [hmode])
    have hf : s.input.Filled := h.mode.filled (by simp [hmode]) (by simp [hmode])
    have hout : (attachReset s).OutputOk :=
      ⟨le_refl _, Nat.zero_le _, fun _ => rfl, le_refl _, fun _ => rfl, h.phase.respFits, h.phase.countFits⟩
    have hdec : Decoding (attachReset s) :=
      ⟨h.params, h.input, hf, rfl, (State.codesOk_of_not_huff (by simp)).mpr ⟨rfl, rfl⟩, rfl, rfl, herr, by simp, fun _ => rfl, hout⟩
    exact hdec.answered .done hd hlen hdyn
  | closed hmode =>
    rw [settle_of_phase_ne (by simp)]
    have hin := h.input
    have hdel := hin.delivered
    refine ⟨h.params, ⟨hin.accBits, hin.accClear, hin.cursor, hin.capacity, ?_, hin.received, hin.sourceEnd, ?_⟩, rfl, ⟨rfl, rfl⟩,
      ⟨?_, ?_, ?_, ?_, ?_, ?_, ?_, ?_⟩, ⟨h.stage.cursor, h.stage.capacity, h.stage.emptyTogether, ?_, ?_, ?_⟩,
      .ofCommand rfl rfl rfl rfl rfl rfl⟩
    case refine_1 =>
      rw [respond_input, closeCore_input]
      simp only [List.length_nil]
      omega
    all_goals simp [Mode.decodes]

end

/-- Settles O49: a step does nothing, or its command or its element ends in one of the ways that keep the invariant. -/
theorem stepKeepsInvariant : Obligations.StepKeepsInvariant := by
  intro s t h hstep
  rcases step_cases h hstep with ⟨rfl, -⟩ | ⟨hphase, cmds, u, hend, rfl⟩ | ⟨f, hf⟩
  · exact h
  · exact hend.inv (h.withPort cmds s.responses) hphase
  · obtain ⟨inp, u, hl, hleft, hend, rfl, -⟩ := step_element h hf hstep
    exact hend.inv (h.running (expectedIn_of_expectedFormat hf) hl hleft)

end Sys2Proof.Machine
end

section
/-! What every step keeps and changes one way only: MODE's transitions, FINAL, ERR, the parameters, the record of responses, the
stream position and the output (R31, R32, R35, R46, R48, R65, R90). -/

namespace Sys2Proof.Machine

/-! ## READ's loop test changes the command port alone -/

section
variable (s : State)

@[simp] theorem settle_params : (settle s).params = s.params := by rcases settle_cases s with ⟨-, -, h⟩ | ⟨-, h⟩ <;> rw [h]; rfl
@[simp] theorem settle_mode : (settle s).mode = s.mode := by rcases settle_cases s with ⟨-, -, h⟩ | ⟨-, h⟩ <;> rw [h]; rfl
@[simp] theorem settle_final : (settle s).final = s.final := by rcases settle_cases s with ⟨-, -, h⟩ | ⟨-, h⟩ <;> rw [h]; rfl
@[simp] theorem settle_err : (settle s).err = s.err := by rcases settle_cases s with ⟨-, -, h⟩ | ⟨-, h⟩ <;> rw [h]; rfl
@[simp] theorem settle_input : (settle s).input = s.input := by rcases settle_cases s with ⟨-, -, h⟩ | ⟨-, h⟩ <;> rw [h]; rfl
@[simp] theorem settle_cmds : (settle s).cmds = s.cmds := by rcases settle_cases s with ⟨-, -, h⟩ | ⟨-, h⟩ <;> rw [h]; rfl

/-- READ's loop test gives one response at most, and only at a step boundary (R300). -/
theorem settle_responses :
    (settle s).responses = s.responses ∨ s.phase = .step ∧ ∃ r, (settle s).responses = s.responses ++ [r] := by
  rcases settle_cases s with ⟨hphase, -, h⟩ | ⟨-, h⟩ <;> rw [h]
  · exact .inr ⟨hphase, _, rfl⟩
  · exact .inl rfl

/-- The bytes of an answered READ have left the decoder before (R90). -/
theorem settle_emittedBytes : emittedBytes (settle s) = emittedBytes s := by
  rcases settle_cases s with ⟨-, -, h⟩ | ⟨-, h⟩ <;> rw [h]
  by_cases hresp : s.rdResp = []
  · simp [answerRead, hresp, emittedBytes, outputStream, stagedBytes, Response.bytes]
  · simp [answerRead, hresp, emittedBytes, outputStream, stagedBytes, Response.bytes]

end

section
variable {s u : State}

/-! ## MODE (R31) -/

theorem Mode.mayBecome_error {m : Mode} (h : m ≠ .closed) : m.mayBecome .error = true := by
  revert h
  cases m <;> decide

theorem Mode.mayBecome_self (m : Mode) : m.mayBecome m = true := by cases m <;> rfl

theorem ElementEnd.mayBecome (h : Running s) (he : ElementEnd s u) : s.mode.mayBecome u.mode = true := by
  cases he with
  | fault => exact Mode.mayBecome_error (Mode.ne_of_decodes h.decodes rfl)
  | waits | storedBlock | dynamicBlock | sequence | length => exact Mode.mayBecome_self _
  | literal => rw [emit_mode]; exact Mode.mayBecome_self _
  | pair => simpa using Mode.mayBecome_self _
  | fixedBlock _ _ _ hmode => rw [hmode]; rfl
  | storedOpened len hphase =>
    dsimp only
    rw [h.inHeader (.inl hphase)]
    split <;> rfl
  | storedByte b _ hmode =>
    dsimp only
    rw [hmode]
    split <;> rfl
  | codes _ _ hphase =>
    dsimp only
    rw [h.inHeader (.inr (.inr hphase))]
    rfl
  | endOfBlock _ hmode => rw [hmode]; rfl

theorem Mode.mayDetach {m : Mode} (h : m.decodes = true) :
    m.mayBecome .passthru = true ∧ m.mayBecome .released = true := by
  revert h
  cases m <;> decide

theorem CommandEnd.mayBecome (he : CommandEnd s u) : s.mode.mayBecome u.mode = true := by
  cases he with
  | answered | forwarded | waits => exact Mode.mayBecome_self _
  | fault _ _ _ _ _ hclosed => exact Mode.mayBecome_error hclosed
  | reads => simpa using Mode.mayBecome_self _
  | passthrough hmode => exact (Mode.mayDetach hmode).1
  | rewind hmode => exact (Mode.mayDetach hmode).2
  | attached hmode => rw [hmode]; rfl
  | closed => cases s.mode <;> rfl

/-- Settles O52: each way a command or an element can end is a transition R31 allows. -/
theorem modeTransitionsAreLegal : Obligations.ModeTransitionsAreLegal := by
  intro s t h hstep
  rcases step_cases h hstep with ⟨rfl, -⟩ | ⟨-, cmds, u, hend, rfl⟩ | ⟨f, hf⟩
  · exact Mode.mayBecome_self _
  · rw [settle_mode]
    exact hend.mayBecome
  · obtain ⟨inp, u, hl, hleft, hend, rfl, -⟩ := step_element h hf hstep
    rw [settle_mode]
    have hrun := h.running (expectedIn_of_expectedFormat hf) hl hleft
    have hlegal := hend.mayBecome hrun
    exact hlegal

/-! ## FINAL, ERR, the parameters and the responses (R32, R35, R46, R65) -/

/-- What no step undoes: `u` follows `s`, and its record of responses is at most one longer, at once or by READ's loop test. -/
structure Follows (s u : State) : Prop where
  final : s.final = true → u.final = true ∨ s.mode = .passthru ∧ u.mode = .idle
  params : u.params = s.params
  err : s.err.code ≠ .noError → u.err = s.err
  responses : u.responses = s.responses ∨ u.phase ≠ .step ∧ ∃ r, u.responses = s.responses ++ [r]

theorem ElementEnd.follows (h : Running s) (he : ElementEnd s u) : Follows s u := by
  have herr : ∀ {e : ErrRecord}, s.err.code ≠ .noError → e = s.err := fun hne => absurd (congrArg ErrRecord.code h.noError) hne
  cases he with
  | fault c i fin hc hfin => exact ⟨fun hf => .inl (hfin hf), rfl, herr, .inr ⟨nofun, _, rfl⟩⟩
  | storedBlock _ hfin | fixedBlock _ hfin | dynamicBlock _ hfin => exact ⟨fun hf => .inl (hfin hf), rfl, herr, .inl rfl⟩
  | waits | storedOpened | sequence | codes | endOfBlock | length => exact ⟨.inl, rfl, herr, .inl rfl⟩
  | storedByte | literal => exact ⟨fun hf => .inl (by simpa using hf), by simp, herr, .inl (by simp)⟩
  | pair => exact ⟨fun hf => .inl (by simpa using hf), by simp, herr, .inl (by simp)⟩

theorem CommandEnd.follows (h : Inv s) (he : CommandEnd s u) : Follows s u := by
  cases he with
  | answered r => exact ⟨.inl, rfl, fun _ => rfl, .inr ⟨nofun, _, rfl⟩⟩
  | fault c i inp hl herror hclosed hc =>
    have hnone := h.mode.noError herror hclosed
    exact ⟨.inl, rfl, fun hne => absurd (congrArg ErrRecord.code hnone) hne, .inr ⟨nofun, _, rfl⟩⟩
  | reads => exact ⟨fun hf => .inl (by simpa using hf), by simp, fun _ => by simp, .inl (by simp)⟩
  | forwarded => exact ⟨.inl, rfl, fun _ => rfl, .inr ⟨nofun, _, rfl⟩⟩
  | waits => exact ⟨.inl, rfl, fun _ => rfl, .inl rfl⟩
  | attached hmode => exact ⟨fun _ => .inr ⟨hmode, rfl⟩, rfl, fun _ => rfl, .inr ⟨nofun, _, rfl⟩⟩
  | passthrough | rewind | closed => exact ⟨.inl, rfl, fun _ => rfl, .inr ⟨nofun, _, rfl⟩⟩

theorem Follows.monotone (h : Follows s u) :
    (s.final = true → (settle u).final = true ∨ s.mode = .passthru ∧ (settle u).mode = .idle) ∧ (settle u).params = s.params ∧
      (s.err.code ≠ .noError → (settle u).err = s.err) ∧ ∃ rs, (settle u).responses = s.responses ++ rs ∧ rs.length ≤ 1 := by
  refine ⟨by simpa using h.final, by simpa using h.params, by simpa using h.err, ?_⟩
  rcases h.responses with hsame | ⟨hphase, r, hone⟩
  · rcases settle_responses u with hr | ⟨-, r, hr⟩
    · exact ⟨[], by simp [hr, hsame], Nat.zero_le _⟩
    · exact ⟨[r], by rw [hr, hsame], le_refl _⟩
  · exact ⟨[r], by rw [settle_of_phase_ne hphase, hone], le_refl _⟩

/-- Settles O53: each way a command or an element can end keeps these, and READ's loop test gives the one response left. -/
theorem monotoneState : Obligations.MonotoneState := by
  intro s t h hstep
  rcases step_cases h hstep with ⟨rfl, -⟩ | ⟨-, cmds, u, hend, rfl⟩ | ⟨f, hf⟩
  · exact ⟨.inl, rfl, fun _ => rfl, [], (List.append_nil _).symm, Nat.zero_le _⟩
  · exact (hend.follows (h.withPort cmds s.responses)).monotone
  · obtain ⟨inp, u, hl, hleft, hend, rfl, -⟩ := step_element h hf hstep
    have hrun := h.running (expectedIn_of_expectedFormat hf) hl hleft
    exact (hend.follows hrun).monotone

/-! ## The stream position (R48) -/

theorem fatal_streamPos (c : Cause) (i : ErrInfo) (s : State) : s.input.streamPos ≤ (fatal c i s).input.streamPos := by
  simp only [fatal_input, Input.streamPos, List.length_nil]
  omega

theorem ElementEnd.streamPos (h : Running s) (he : ElementEnd s u) : s.input.streamPos ≤ u.input.streamPos := by
  cases he with
  | fault c i fin => exact fatal_streamPos c i { s with final := fin }
  | storedBlock => exact (Input.Leads.alignToByte h.sound h.filled).streamPos_le h.sound
  | waits | fixedBlock | dynamicBlock | storedOpened | sequence | codes | endOfBlock | length => exact le_refl _
  | storedByte | literal | pair => simp

/-- An element ends in a mode that decodes, or in an error. -/
theorem ElementEnd.mode (h : Running s) (he : ElementEnd s u) : u.mode = .error ∨ u.mode.decodes = true := by
  cases he with
  | fault => exact .inl rfl
  | waits | storedBlock | dynamicBlock | sequence | length => exact .inr h.decodes
  | literal | pair => exact .inr (by simpa using h.decodes)
  | fixedBlock | codes | endOfBlock => exact .inr rfl
  | storedOpened => refine .inr ?_; dsimp only; split <;> rfl
  | storedByte b _ hmode => refine .inr ?_; dsimp only; rw [hmode]; split <;> rfl

/-- What a command does to the stream position: it moves it on, or hands the source back (R313). -/
theorem CommandEnd.streamPos (h : Inv s) (hphase : s.phase = .command) (he : CommandEnd s u) :
    (s.input.streamPos ≤ u.input.streamPos ∧ (u.mode = .released → s.mode = .released)) ∨
      s.mode.decodes = true ∧ u.mode = .released ∧ u.input.streamPos = 0 := by
  have hd := h.noDirect_of_command hphase
  cases he with
  | answered => exact .inl ⟨le_refl _, id⟩
  | fault c i inp hl =>
    exact .inl ⟨(hl.streamPos_le h.input).trans (fatal_streamPos c i { s with input := inp }), nofun⟩
  | reads => exact .inl ⟨by simp, by simp⟩
  | forwarded r inp hl => exact .inl ⟨hl.streamPos_le h.input, id⟩
  | waits inp hl => exact .inl ⟨hl.streamPos_le h.input, id⟩
  | passthrough hmode =>
    have hl : s.input.Leads s.params.inCap (alignToByte s.input) := .alignToByte h.input (h.filled_of_decodes hmode)
    exact .inl ⟨hl.streamPos_le h.input, nofun⟩
  | rewind hmode => exact .inr ⟨hmode, rfl, by simp [Input.streamPos, alignToByte, hd]⟩
  | attached => exact .inl ⟨le_refl _, nofun⟩
  | closed => exact .inl ⟨by simp [Input.streamPos, hd], nofun⟩

/-- Settles O54: what reads leave is further on by the bits they take, an element takes one at least, and the rewind alone sets the
position back. -/
theorem streamPositionMovesForward : Obligations.StreamPositionMovesForward := by
  refine ⟨fun p src cmds => by simp [State.construct, Input.reset, Input.streamPos], fun s t h hstep => ?_⟩
  rcases step_cases h hstep with ⟨rfl, hstill⟩ | ⟨hphase, cmds, u, hend, rfl⟩ | ⟨f, hf⟩
  · exact ⟨fun _ => le_refl _, fun hne hm => absurd hm hne, fun hne _ hw => absurd (hstill.resolve_left hne) hw⟩
  · rw [settle_mode, settle_input]
    rcases hend.streamPos (h.withPort cmds s.responses) hphase with ⟨hle, hm⟩ | ⟨hdec, hm, hzero⟩
    · exact ⟨fun _ => hle, fun hne ht => absurd (hm ht) hne, fun hne => absurd hphase hne⟩
    · refine ⟨fun hor => ?_, fun _ _ => hzero, fun hne => absurd hphase hne⟩
      exact absurd hm (hor.resolve_left (Mode.ne_of_decodes hdec rfl))
  · obtain ⟨inp, u, hl, hleft, hend, rfl, hless⟩ := step_element h hf hstep
    have hrun := h.running (expectedIn_of_expectedFormat hf) hl hleft
    have hon := hend.streamPos hrun
    dsimp only at hon
    have hreads := hl.streamPos_add h.input
    have hlen := hl.suffix.length_le
    rw [settle_mode, settle_input]
    refine ⟨fun _ => by omega, fun _ hm => ?_, fun _ herror hwaits => ?_⟩
    · rcases hend.mode hrun with hm' | hm' <;> simp [hm, Mode.decodes] at hm'
    · have hwaits' : u.phase ≠ .waiting := fun hw => hwaits (by rw [settle_of_phase_ne (by simp [hw]), hw])
      have := (hless.resolve_left herror).resolve_left hwaits'
      omega

/-! ## The output (R66, R90, R254) -/

/-- What an element adds to the output while CORE decodes. -/
theorem ElementEnd.emittedBytes (h : Running s) (hmode : u.mode ≠ .error) (he : ElementEnd s u) :
    ∃ bs, emittedBytes u = emittedBytes s ++ bs ∧ bs.length ≤ 258 := by
  have hemits : Emitting s := h.output.emitting h.empty
  cases he with
  | fault => exact absurd rfl hmode
  | waits | storedBlock | fixedBlock | dynamicBlock | storedOpened | sequence | codes | endOfBlock | length =>
    exact ⟨[], (List.append_nil _).symm, Nat.zero_le _⟩
  | storedByte b | literal b => exact ⟨[b], emit_emittedBytes hemits b, by simp⟩
  | pair dist hphase =>
    obtain ⟨bs, hbs, hlen⟩ := copy_emittedBytes hemits dist s.len
    exact ⟨bs, hbs, hlen ▸ (h.inPair hphase).2⟩

/-- A command adds nothing to the output while CORE decodes: a READ only delivers what is staged (R302). -/
theorem CommandEnd.emittedBytes (h : Inv s) (hphase : s.phase = .command) (hs : s.mode.decodes = true)
    (hu : u.mode.decodes = true) (he : CommandEnd s u) : emittedBytes u = emittedBytes s := by
  have hresp := (h.phase.noCommand hphase).2
  cases he with
  | answered r hdata =>
    rw [respond_of_command h hphase]
    simp [Machine.emittedBytes, outputStream, stagedBytes, hdata]
  | reads count =>
    refine (drain_emittedBytes (s := { s with phase := .step, rdCount := count, rdResp := [] }) h.stage.cursor).trans ?_
    simp only [Machine.emittedBytes, hresp]
    rfl
  | fault => simp [Mode.decodes] at hu
  | forwarded _ _ _ _ _ hmode | waits _ _ _ _ hmode | attached hmode => simp [hmode, Mode.decodes] at hs
  | passthrough | rewind | closed => simp [Mode.decodes] at hu

/-- Settles O55: bytes are emitted behind all that have been, one by a stored byte or a literal, at most 258 by a pair. -/
theorem outputOnlyGrows : Obligations.OutputOnlyGrows := by
  intro s t h hs ht hstep
  rcases step_cases h hstep with ⟨rfl, -⟩ | ⟨hphase, cmds, u, hend, rfl⟩ | ⟨f, hf⟩
  · exact ⟨[], (List.append_nil _).symm, Nat.zero_le _⟩
  · rw [settle_mode] at ht
    have hsame := hend.emittedBytes (h.withPort cmds s.responses) hphase hs ht
    exact ⟨[], by rw [settle_emittedBytes, hsame, List.append_nil]; rfl, Nat.zero_le _⟩
  · obtain ⟨inp, u, hl, hleft, hend, rfl, -⟩ := step_element h hf hstep
    have hrun := h.running (expectedIn_of_expectedFormat hf) hl hleft
    rw [settle_mode] at ht
    rw [settle_emittedBytes]
    have hout := hend.emittedBytes hrun (Mode.ne_of_decodes ht rfl)
    exact hout

end

end Sys2Proof.Machine
end

section
/-! Two COREs with the same stream ahead give the same responses to the same READs, however their sources split the bytes into
answers (R60, R154, R160): each step of the one is a step of the other, and they differ in their input layers alone. -/

namespace Sys2Proof.Machine

/-! ## Two readers of the same stream -/

/-- A reader reads the same from two input layers with the same stream ahead, or ends alike. -/
theorem Reader.agree {α : Type} {P Q : Input → Prop} {cap n : Nat} {op : Input → InRes α} (h : Reader P Q cap n op) {a b : Input}
    (ha : P a) (hb : P b) (hab : SameStream a b) :
    (∃ x a' b', op a = .ok x a' ∧ op b = .ok x b' ∧ Q a' ∧ Q b' ∧ SameStream a' b') ∨
      (∃ a' b', op a = .ended a.src.ending a' ∧ op b = .ended a.src.ending b') ∨ ∃ f, op a = .stop f := by
  obtain ⟨p, hp, -⟩ := h
  obtain ⟨hahead, hending⟩ := hab
  have hdoA := hp a ha
  have hdoB := hp b hb
  rw [← hahead] at hdoB
  cases hpa : p a.ahead with
  | value x rest =>
    rw [hpa] at hdoA hdoB
    obtain ⟨a', hrA, haA, hlA, hqA⟩ := hdoA.of_value
    obtain ⟨b', hrB, haB, hlB, hqB⟩ := hdoB.of_value
    exact .inl ⟨x, a', b', hrA, hrB, hqA, hqB, haA.trans haB.symm, by rw [hlA.ending, hlB.ending, hending]⟩
  | short =>
    rw [hpa] at hdoA hdoB
    obtain ⟨a', hrA, -⟩ := hdoA.of_short
    obtain ⟨b', hrB, -⟩ := hdoB.of_short
    exact .inr (.inl ⟨a', b', hrA, hending ▸ hrB⟩)
  | stop f =>
    rw [hpa] at hdoA
    exact .inr (.inr ⟨f, hdoA.of_stop⟩)

/-! ## States that differ in their input layers alone -/

/-- How one step leaves two COREs that differ in their input layers alone: the same stream is ahead of both, or they wait, or they
are terminated and read no more. -/
def SameEnd (u v : State) : Prop :=
  SameButInput u v ∧ (SameStream u.input v.input ∨ u.phase = .waiting ∨ u.mode = .error)

/-- What one CORE does from an input layer the other does from another. -/
def SameRun (r r' : Result) : Prop := ∀ u, r = .next u → ∃ v, r' = .next v ∧ SameEnd u v

theorem SameRun.next {u v : State} (h : SameEnd u v) : SameRun (.next u) (.next v) := by
  rintro _ ⟨⟩
  exact ⟨v, rfl, h⟩

section
variable {s : State} {a b : Input}

theorem SameEnd.fatal (c : Cause) (i : ErrInfo) : SameEnd (fatal c i { s with input := a }) (fatal c i { s with input := b }) :=
  ⟨rfl, .inr (.inr rfl)⟩

/-- A step's read and what follows it. -/
theorem SameRun.onInput {α : Type} {P Q : Input → Prop} {cap n : Nat} {op : Input → InRes α} {k : α → State → Result}
    (hop : Reader P Q cap n op) (ha : P a) (hb : P b) (hab : SameStream a b)
    (hk : ∀ x a' b', Q a' → Q b' → SameStream a' b' → SameRun (k x { s with input := a' }) (k x { s with input := b' })) :
    SameRun (onInput { s with input := a } (op a) k) (onInput { s with input := b } (op b) k) := by
  rcases hop.agree ha hb hab with ⟨x, a', b', hrA, hrB, hqA, hqB, hab'⟩ | ⟨a', b', hrA, hrB⟩ | ⟨f, hrA⟩
  · rw [hrA, hrB]
    exact hk x a' b' hqA hqB hab'
  · rw [hrA, hrB]
    cases a.src.ending with
    | endOfData => exact .next (.fatal _ _)
    | ioError p => exact .next (.fatal _ _)
    | silent => exact .next ⟨rfl, .inr (.inl rfl)⟩
  · rw [hrA]
    rintro u ⟨⟩

/-! ## Emitting and READ's loop test do not look at the input layer -/

theorem emit_withInput (x : Byte) (s : State) (inp : Input) : emit x { s with input := inp } = { emit x s with input := inp } := by
  rcases emit_cases x s with ⟨hroom, he⟩ | ⟨hfull, he⟩
  · rcases emit_cases x { s with input := inp } with ⟨-, he'⟩ | ⟨hfull, -⟩
    · rw [he, he']; rfl
    · exact absurd hroom (Nat.not_lt.mpr hfull)
  · rcases emit_cases x { s with input := inp } with ⟨hroom, -⟩ | ⟨-, he'⟩
    · exact absurd hroom (Nat.not_lt.mpr hfull)
    · rw [he, he']; rfl

theorem copy_withInput (dist len : Nat) (s : State) (inp : Input) :
    copy dist len { s with input := inp } = { copy dist len s with input := inp } := by
  induction len generalizing s with
  | zero => rfl
  | succ n ih => rw [copy_succ, emit_withInput, ih]; rfl

theorem settle_withInput (s : State) (inp : Input) : settle { s with input := inp } = { settle s with input := inp } := by
  unfold settle
  dsimp only
  split
  · have htest : ({ s with input := inp } : State).room = s.room ∧ ({ s with input := inp } : State).atEos = s.atEos := ⟨rfl, rfl⟩
    rw [htest.1, htest.2]
    split <;> rfl
  · rfl

theorem SameEnd.settle {u v : State} (h : SameEnd u v) : SameEnd (settle u) (settle v) := by
  obtain ⟨hsame, hor⟩ := h
  have hv : Machine.settle v = { Machine.settle u with input := v.input } :=
    (congrArg Machine.settle hsame).trans (settle_withInput u v.input)
  refine ⟨by rw [SameButInput, settle_input]; exact hv, ?_⟩
  rcases hor with hstream | hwaits | herror
  · exact .inl (by rwa [settle_input, settle_input])
  · exact .inr (.inl (by rw [settle_of_phase_ne (by simp [hwaits]), hwaits]))
  · exact .inr (.inr (by rwa [settle_mode]))

theorem SameRun.afterElement {r r' : Result} (h : SameRun r r') : SameRun (afterElement r) (afterElement r') := by
  intro u hu
  cases r with
  | next t =>
    obtain ⟨v, rfl, hv⟩ := h t rfl
    obtain rfl := Host.Outcome.next.inj hu
    exact ⟨settle v, rfl, hv.settle⟩
  | fault f => simp [Machine.afterElement] at hu
  | refused q => simp [Machine.afterElement] at hu

/-! ## Each element -/

/-- Alignment drops as many bits from either (R156). -/
theorem SameStream.alignToByte (h : SameStream a b) :
    SameStream (alignToByte a) (alignToByte b) := by
  have hlen := congrArg List.length h.1
  rw [Input.ahead_length, Input.ahead_length] at hlen
  refine ⟨?_, h.2⟩
  rw [alignToByte_eq, alignToByte_eq, Input.dropBits_ahead (Nat.mod_le _ _), Input.dropBits_ahead (Nat.mod_le _ _), h.1]
  congr 1
  omega

theorem SameEnd.adoptCodes (lens : List Nat) (h : SameStream a b) :
    SameEnd (adoptCodes lens { s with input := a }) (adoptCodes lens { s with input := b }) := by
  unfold Machine.adoptCodes
  dsimp only
  cases buildTree (splitLitlen s.dyn.hlit lens) .litlen with
  | error c => exact .fatal _ _
  | ok tll =>
    cases buildTree (splitDist s.dyn.hlit s.dyn.hdist lens) .dist with
    | error c => exact .fatal _ _
    | ok td => exact ⟨rfl, .inl h⟩

theorem SameEnd.extendLengths (more : List Nat) (h : SameStream a b) :
    SameEnd (extendLengths more { s with input := a }) (extendLengths more { s with input := b }) := by
  unfold Machine.extendLengths
  dsimp only
  split
  · exact ⟨rfl, .inl h⟩
  · exact .adoptCodes _ h

theorem SameEnd.repeatLength (r value : Nat) (h : SameStream a b) :
    SameEnd (repeatLength r value { s with input := a }) (repeatLength r value { s with input := b }) := by
  unfold Machine.repeatLength
  dsimp only
  split
  · exact .fatal _ _
  · exact .extendLengths _ h

theorem SameRun.repeatSymbol {o : Operand} {value : Nat} (ho : o.extra ≤ 16) (ha : a.Ready s.params.inCap)
    (hb : b.Ready s.params.inCap) (h : SameStream a b) :
    SameRun
      (Machine.onInput { s with input := a } (readOperand s.params.inCap o a) fun r t => .next (Machine.repeatLength r value t))
      (Machine.onInput { s with input := b } (readOperand s.params.inCap o b) fun r t => .next (Machine.repeatLength r value t)) :=
  .onInput (readOperand_reader _ ho) ha hb h fun r _ _ _ _ h' => .next (.repeatLength r value h')

theorem SameEnd.emit (x : Byte) (h : SameStream a b) : SameEnd (emit x { s with input := a }) (emit x { s with input := b }) := by
  rw [emit_withInput x s a, emit_withInput x s b]
  exact ⟨rfl, .inl h⟩

/-- A stored byte is emitted and counted off alike. -/
theorem SameEnd.storedByte (x : Byte) (h : SameStream a b) :
    SameEnd
      { Machine.emit x { s with input := a } with
        storedRem := s.storedRem - 1#16, mode := if s.storedRem = 1#16 then .idle else s.mode }
      { Machine.emit x { s with input := b } with
        storedRem := s.storedRem - 1#16, mode := if s.storedRem = 1#16 then .idle else s.mode } := by
  rw [emit_withInput x s a, emit_withInput x s b]
  exact ⟨rfl, .inl h⟩

/-- A pair is copied alike. -/
theorem SameEnd.pair (dist : Nat) (h : SameStream a b) :
    SameEnd { copy dist s.len { s with input := a } with len := 0, phase := .step }
      { copy dist s.len { s with input := b } with len := 0, phase := .step } := by
  rw [copy_withInput dist s.len s a, copy_withInput dist s.len s b]
  exact ⟨rfl, .inl h⟩

section
variable (ha : a.Ready s.params.inCap) (hb : b.Ready s.params.inCap) (h : SameStream a b)
include ha hb h

theorem SameRun.dynamicHeader (hlit hdist : BitVec 5) (hclen : BitVec 4) :
    SameRun (exec (.dynamicHeader hlit hdist hclen) { s with input := a })
      (exec (.dynamicHeader hlit hdist hclen) { s with input := b }) := by
  simp only [exec, execDynamicHeader]
  refine .onInput (s := s) (readClLengths_reader s.params.inCap _ _) ha hb h fun cl a' b' _ _ h' => ?_
  dsimp only
  cases buildTree cl .clen with
  | ok tree => exact .next ⟨rfl, .inl h'⟩
  | error c => exact .next (.fatal _ _)

theorem SameRun.clenSymbol {i : Instr}
    (hi : (∃ len, i = .clLen len) ∨ i = .clRepeatPrev ∨ i = .clZeroShort ∨ i = .clZeroLong) :
    SameRun (exec i { s with input := a }) (exec i { s with input := b }) := by
  rcases hi with ⟨len, rfl⟩ | rfl | rfl | rfl
  · exact .next (.extendLengths _ h)
  · simp only [exec, execClRepeatPrev]
    cases s.dyn.lens.getLast? with
    | none => exact .next (.fatal _ _)
    | some prev => exact .repeatSymbol (by decide) ha hb h
  · exact .repeatSymbol (by decide) ha hb h
  · exact .repeatSymbol (by decide) ha hb h

theorem SameRun.litlenSymbol {i : Instr}
    (hi : (∃ x, i = .lit x) ∨ i = .eob ∨ (∃ sym, i = .lenReserved sym) ∨ ∃ base extra, (i, base, extra) ∈ lengthRows) :
    SameRun (exec i { s with input := a }) (exec i { s with input := b }) := by
  rcases hi with ⟨x, rfl⟩ | rfl | ⟨sym, rfl⟩ | ⟨base, extra, hrow⟩
  · exact .next (.emit x h)
  · exact .next ⟨rfl, .inl h⟩
  · exact .next (.fatal _ _)
  · obtain ⟨-, -, hextra⟩ := lengthRows_range hrow
    rw [exec_of_mem_lengthRows hrow, exec_of_mem_lengthRows hrow]
    refine .onInput (readOperand_reader s.params.inCap hextra) ha hb h fun len a' b' _ _ h' => ?_
    dsimp only
    split
    · exact .next (.fatal _ _)
    · exact .next ⟨rfl, .inl h'⟩

theorem SameRun.distSymbol {i : Instr} (hi : (∃ sym, i = .distReserved sym) ∨ ∃ base extra, (i, base, extra) ∈ distanceRows) :
    SameRun (exec i { s with input := a }) (exec i { s with input := b }) := by
  rcases hi with ⟨sym, rfl⟩ | ⟨base, extra, hrow⟩
  · exact .next (.fatal _ _)
  · rw [exec_of_mem_distanceRows hrow, exec_of_mem_distanceRows hrow]
    exact .onInput (readOperand_reader s.params.inCap (distanceRows_extra hrow)) ha hb h
      fun dist a' b' _ _ h' => .next (.pair dist h')

end

/-- The elements whose meaning reads nothing more. -/
theorem SameRun.header {i : Instr} (h : SameStream a b)
    (hi : (∃ f, i = .blockStored f ∨ i = .blockFixed f ∨ i = .blockDynamic f ∨ i = .blockReserved f) ∨
      (∃ len nlen, i = .storedHeader len nlen) ∨ ∃ x, i = .storedByte x) :
    SameRun (exec i { s with input := a }) (exec i { s with input := b }) := by
  rcases hi with ⟨f, rfl | rfl | rfl | rfl⟩ | ⟨len, nlen, rfl⟩ | ⟨x, rfl⟩
  · exact .next ⟨rfl, .inl h.alignToByte⟩
  · exact .next ⟨rfl, .inl h⟩
  · exact .next ⟨rfl, .inl h⟩
  · exact .next ⟨rfl, .inr (.inr rfl)⟩
  · simp only [exec, execStoredHeader]
    split
    · exact .next ⟨rfl, .inl h⟩
    · exact .next (.fatal _ _)
  · exact .next (.storedByte x h)

/-- An element behind its value does the same from either input layer. -/
theorem exec_sameRun {f : Format} {v : Nat} {i : Instr} (hin : ExpectedIn s f) (ha : s.Left a) (hb : s.Left b)
    (h : SameStream a b) (hd : decode f v = .ok i) : SameRun (exec i { s with input := a }) (exec i { s with input := b }) := by
  by_cases hstored : f = .storedByte
  · subst hstored
    exact .header h (.inr (.inr (decode_storedByte hd)))
  · have hne : ¬(s.phase = .step ∧ s.mode = .stored) := fun hs => hstored ((storedByte_of_expected hin).mpr hs)
    rw [State.Left, if_neg hne] at ha hb
    cases f with
    | blockHeader => exact .header h (.inl (decode_blockHeader hd))
    | storedHeader => exact .header h (.inr (.inl (decode_storedHeader hd)))
    | storedByte => exact absurd rfl hstored
    | dynamicHeader =>
      obtain ⟨hlit, hdist, hclen, rfl⟩ := decode_dynamicHeader hd
      exact .dynamicHeader ha hb h hlit hdist hclen
    | clenSymbol => exact .clenSymbol ha hb h (decode_clenSymbol hd)
    | litlenSymbol => exact .litlenSymbol ha hb h (decode_litlenSymbol hd)
    | distSymbol => exact .distSymbol ha hb h (decode_distSymbol hd)
    | command => exact absurd hin id

/-! ## Each step -/

theorem step_element_sameRun {f : Format} (hs : Inv s) (hb : Inv { s with input := b }) (hf : expectedFormat s = some f)
    (h : SameStream s.input b) : SameRun (step s) (step { s with input := b }) := by
  have hf' : expectedFormat { s with input := b } = some f := hf
  rw [step_of_expectedFormat hf, step_of_expectedFormat hf']
  refine .onInput (s := s) (a := s.input) (fetchValue_reader hs hf) hs hb h fun v a' b' ha' hb' h' => ?_
  unfold runValue
  cases hd : decode f v with
  | error e => rintro u ⟨⟩
  | ok i => exact (exec_sameRun (expectedIn_of_expectedFormat hf) ha' hb' h' hd).afterElement

end

/-- Two COREs in the middle of the same READs. -/
structure Twin (s t : State) : Prop where
  inv : Inv s
  inv' : Inv t
  mode : s.mode.decodes = true ∨ s.mode = .error
  same : SameEnd s t
  reads : ∀ w ∈ s.cmds, w.code = 0#2

theorem decode_read {w : CmdWord} (h : w.code = 0#2) : decode .command w.value = .ok (.cmdRead w.count.toNat) := by
  have hcount := w.count.isLt
  have hvalue : w.value = 4 * w.count.toNat := by simp [CmdWord.value, h]
  have hmod : 4 * w.count.toNat % 4 = 0 := by omega
  have hdiv : 4 * w.count.toNat / 4 = w.count.toNat := by omega
  simp only [decode, decodeCommand, hvalue, hmod, hdiv]
  exact if_pos (by omega)

theorem execCmdRead_of_error {s : State} (count : Nat) (h : s.mode = .error) :
    execCmdRead count s = .next (respond (.fault s.err.code s.err.info) s) := by
  simp only [execCmdRead, h]

theorem drain_withInput (s : State) (inp : Input) : drain { s with input := inp } = { drain s with input := inp } := by
  obtain ⟨n, hn, hd⟩ := drain_eq s
  obtain ⟨n', hn', hd'⟩ := drain_eq { s with input := inp }
  obtain rfl : n' = n := hn'.trans hn.symm
  rw [hd, hd']

/-- A READ is accepted, or answered, alike (R300, R346). -/
theorem execCmdRead_twin {s u : State} {b : Input} {count : Nat} (hmode : s.mode.decodes = true ∨ s.mode = .error)
    (h : SameStream s.input b ∨ s.mode = .error) (he : execCmdRead count s = .next u) :
    ∃ v, execCmdRead count { s with input := b } = .next v ∧ SameEnd u v ∧ u.mode = s.mode ∧ u.cmds = s.cmds := by
  rcases hmode with hdecodes | herror
  · have hdecodes' : ({ s with input := b } : State).mode.decodes = true := hdecodes
    have hstream : SameStream s.input b := h.resolve_right (Mode.ne_of_decodes hdecodes rfl)
    rw [execCmdRead_of_decodes count hdecodes] at he
    rw [execCmdRead_of_decodes count hdecodes']
    split at he <;> obtain rfl := Host.Outcome.next.inj he
    · exact ⟨_, if_pos ‹_›, ⟨rfl, .inl hstream⟩, rfl, rfl⟩
    · have hdrain := drain_withInput { s with phase := .step, rdCount := count, rdResp := [] } b
      refine ⟨_, if_neg ‹_›, ⟨?_, .inl ?_⟩, by simp, by simp⟩
      · rw [SameButInput, drain_input]
        exact hdrain
      · rw [drain_input, drain_input]
        exact hstream
  · have herror' : ({ s with input := b } : State).mode = .error := herror
    rw [execCmdRead_of_error count herror] at he
    obtain rfl := Host.Outcome.next.inj he
    exact ⟨_, execCmdRead_of_error count herror', ⟨rfl, .inr (.inr herror)⟩, rfl, rfl⟩

theorem ElementEnd.cmds {s u : State} (he : ElementEnd s u) : u.cmds = s.cmds := by cases he <;> simp

/-- The invariant leaves a terminated CORE no READ in progress. -/
theorem Inv.command_of_error {s : State} (h : Inv s) (herror : s.mode = .error) : s.phase = .command := by
  cases hphase : s.phase with
  | command => rfl
  | waiting => simpa [herror, Mode.decodes] using h.phase.waits hphase
  | step => simpa [herror, Mode.decodes] using (h.phase.atStep hphase).1
  | storedHeader => simpa [herror] using (h.phase.inHeader (.inl hphase)).1
  | dynamicHeader => simpa [herror] using (h.phase.inHeader (.inr (.inl hphase))).1
  | clenSymbol => simpa [herror] using (h.phase.inHeader (.inr (.inr hphase))).1
  | distSymbol => simpa [herror] using (h.phase.inPair hphase).1

/-- The commands' step of the simulation: with no command both stay, and a READ runs alike. -/
theorem Twin.command {s t : State} {b : Input} (h : Twin s { s with input := b }) (hphase : s.phase = .command)
    (hstep : step s = .next t) :
    ∃ v, step { s with input := b } = .next v ∧ SameEnd t v ∧ t.mode = s.mode ∧ ∀ w ∈ t.cmds, w ∈ s.cmds := by
  have hphase' : ({ s with input := b } : State).phase = .command := hphase
  by_cases hnone : s.cmds = []
  · have hnone' : ({ s with input := b } : State).cmds = [] := hnone
    rw [step_of_no_command hphase hnone] at hstep
    obtain rfl := Host.Outcome.next.inj hstep
    exact ⟨_, step_of_no_command hphase' hnone', h.same, rfl, fun _ => id⟩
  · obtain ⟨w, rest, hcmds⟩ := List.exists_cons_of_ne_nil hnone
    have hcmds' : ({ s with input := b } : State).cmds = w :: rest := hcmds
    have hw : w.code = 0#2 := h.reads w (by simp [hcmds])
    rw [step_of_command hphase hcmds, runValue_of_decode (decode_read hw)] at hstep
    rw [step_of_command hphase' hcmds', runValue_of_decode (decode_read hw)]
    cases hexec : exec (.cmdRead w.count.toNat) { s with cmds := rest } with
    | next u =>
      rw [hexec] at hstep
      obtain rfl := Host.Outcome.next.inj hstep
      have hstill : SameStream s.input b ∨ s.mode = .error := by simpa [hphase] using h.same.2
      obtain ⟨v, hv, hsame, hmode, hrest⟩ := execCmdRead_twin (s := { s with cmds := rest }) (b := b) h.mode hstill hexec
      refine ⟨settle v, congrArg afterElement hv, hsame.settle, by simpa using hmode, ?_⟩
      rw [settle_cmds, hrest, hcmds]
      exact fun _ => List.mem_cons_of_mem w
    | fault f => simp [hexec, afterElement] at hstep
    | refused q => simp [hexec, afterElement] at hstep

theorem Twin.step {s s' t : State} (h : Twin s s') (hstep : Machine.step s = .next t) :
    ∃ t', Machine.step s' = .next t' ∧ Twin t t' := by
  obtain ⟨b, rfl⟩ : ∃ b, s' = { s with input := b } := ⟨_, h.same.1⟩
  suffices hsim : ∃ t', Machine.step { s with input := b } = .next t' ∧ SameEnd t t' ∧
      (t.mode.decodes = true ∨ t.mode = .error) ∧ ∀ w ∈ t.cmds, w ∈ s.cmds by
    obtain ⟨t', hstep', hsame, hmode, hcmds⟩ := hsim
    exact ⟨t', hstep', stepKeepsInvariant _ _ h.inv hstep, stepKeepsInvariant _ _ h.inv' hstep', hmode, hsame,
      fun w hw => h.reads w (hcmds w hw)⟩
  by_cases hcommand : s.phase = .command
  · obtain ⟨v, hv, hsame, hmode, hcmds⟩ := h.command hcommand hstep
    exact ⟨v, hv, hsame, by rw [hmode]; exact h.mode, hcmds⟩
  by_cases hwaits : s.phase = .waiting
  · rw [step_of_waiting hwaits] at hstep
    obtain rfl := Host.Outcome.next.inj hstep
    exact ⟨_, step_of_waiting hwaits, h.same, h.mode, fun _ => id⟩
  · obtain ⟨f, hf⟩ := h.inv.expectedFormat_some hcommand hwaits
    have hstream : SameStream s.input b := by
      refine h.same.2.resolve_right ?_
      rintro (hw | he)
      · exact hwaits hw
      · exact hcommand (h.inv.command_of_error he)
    obtain ⟨v, hv, hsame⟩ := step_element_sameRun h.inv h.inv' hf hstream t hstep
    obtain ⟨inp, u, hl, hleft, hend, rfl, -⟩ := step_element h.inv hf hstep
    have hrun := h.inv.running (expectedIn_of_expectedFormat hf) hl hleft
    refine ⟨v, hv, hsame, ?_, ?_⟩
    · rw [settle_mode]
      exact (hend.mode hrun).symm
    · rw [settle_cmds, hend.cmds]
      exact fun _ => id

/-- Settles O59: the two COREs stay twins, step by step. -/
theorem responsesIndependentOfChunking : Obligations.ResponsesIndependentOfChunking := by
  suffices hrun : ∀ (k : Nat) (s s' t : State), Twin s s' → Host.Core.run core k s = .next t →
      ∃ t', Host.Core.run core k s' = .next t' ∧ Twin t t' by
    intro k s s' t hs hs' hmode hsame hstream hreads hk
    obtain ⟨t', hk', htwin⟩ := hrun k s s' t ⟨hs, hs', .inl hmode, ⟨hsame, .inl hstream⟩, hreads⟩ hk
    exact ⟨t', hk', htwin.same.1⟩
  intro k
  induction k with
  | zero =>
    intro s s' t h hk
    obtain rfl := Host.Outcome.next.inj hk
    exact ⟨s', rfl, h⟩
  | succ k ih =>
    intro s s' t h hk
    cases hstep : Machine.step s with
    | next u =>
      obtain ⟨u', hstep', htwin⟩ := h.step hstep
      have hk₁ : Host.Core.run core k u = .next t := by simpa [Host.Core.run, core, hstep] using hk
      obtain ⟨t', hk', htwin'⟩ := ih u u' t htwin hk₁
      exact ⟨t', by simpa [Host.Core.run, core, hstep'] using hk', htwin'⟩
    | fault f => simp [Host.Core.run, core, hstep] at hk
    | refused q => simp [Host.Core.run, core, hstep] at hk

end Sys2Proof.Machine
end

section
/-! Every step keeps what CORE holds and what the source has left the end of the source's bytes, and every stream bit its number,
but by the rewind (R12, R48, R71, R161). -/

namespace Sys2Proof.Machine

/-! ## What reads leave -/

section
variable {cap : Nat} {inp inp' : Input}

/-- Every stream bit keeps its number where reads alone have passed (R12, R48). -/
theorem Input.Leads.streamBit_eq (h : inp.Leads cap inp') (p : Nat) : inp'.streamBit p = inp.streamBit p := by
  rw [Input.streamBit, Input.streamBit, h.origin, h.data]

/-- Reads skip, repeat and alter no bit (R71). -/
theorem Input.Leads.coherent (h : inp.Leads cap inp') (hc : inp.Coherent) : inp'.Coherent := by
  rw [Input.Coherent, h.data]
  exact h.suffix.trans hc

end

section
variable {s u : State}

theorem Source.rest_suffix (src : Source) : streamBits src.rest <:+ streamBits src.data :=
  ⟨streamBits (src.data.take src.pos), by rw [← streamBits_append, Source.rest, List.take_append_drop]⟩

/-- Behind the rewind nothing is held, and the source's bytes come again from where it stands (R313). -/
theorem detachRewind_coherent (hd : s.input.direct = []) : (detachRewind s).input.Coherent := by
  have hahead : (detachRewind s).input.ahead = streamBits (detachRewind s).input.src.rest := by
    simp [Input.ahead_eq, Input.buffered, hd, bitsLsbFirst]
  rw [Input.Coherent, hahead]
  exact Source.rest_suffix _

/-! ## What elements and commands leave -/

/-- An element that raises no error does no more to the input layer behind its reads than align it (R212). -/
theorem ElementEnd.leads (h : Running s) (hmode : u.mode ≠ .error) (he : ElementEnd s u) :
    s.input.Leads s.params.inCap u.input := by
  have hsame : s.input.Leads s.params.inCap s.input := .refl h.sound h.filled
  cases he with
  | fault => exact absurd rfl hmode
  | storedBlock => exact .alignToByte h.sound h.filled
  | waits | fixedBlock | dynamicBlock | storedOpened | sequence | codes | endOfBlock | length => exact hsame
  | storedByte | literal | pair => simpa using hsame

/-- A command that keeps the buffers reads at most, or hands the source back (R311 to R313, R322). -/
theorem CommandEnd.leads (h : Inv s) (herror : u.mode ≠ .error) (hclosed : u.mode ≠ .closed) (he : CommandEnd s u) :
    s.input.Leads s.params.inCap u.input ∨
      s.mode.decodes = true ∧ u = respond .done (detachRewind (detachCommon s)) := by
  have hsame : s.mode ≠ .error → s.mode ≠ .closed → s.input.Leads s.params.inCap s.input :=
    fun he hc => .refl h.input (h.mode.filled he hc)
  cases he with
  | fault => exact absurd rfl herror
  | closed => exact absurd rfl hclosed
  | answered => exact .inl (hsame herror hclosed)
  | reads => exact .inl (by simpa using hsame (by simpa using herror) (by simpa using hclosed))
  | forwarded r inp hl => exact .inl hl
  | waits inp hl => exact .inl hl
  | passthrough hmode => exact .inl (.alignToByte h.input (h.filled_of_decodes hmode))
  | rewind hmode => exact .inr ⟨hmode, rfl⟩
  | attached hmode => exact .inl (hsame (by simp [hmode]) (by simp [hmode]))

end

/-- Settles O51: each step's reads and alignment lead from the one input layer to the other, and the rewind leaves nothing held. -/
theorem stepKeepsStreamCoherent : Obligations.StepKeepsStreamCoherent := by
  intro s t h hc hstep herror hclosed
  rcases step_cases h hstep with ⟨rfl, -⟩ | ⟨hphase, cmds, u, hend, rfl⟩ | ⟨f, hf⟩
  · exact ⟨hc, fun _ _ => rfl⟩
  · rw [settle_mode] at herror hclosed
    rw [settle_mode, settle_input]
    rcases hend.leads (h.withPort cmds s.responses) herror hclosed with hl | ⟨hdecodes, rfl⟩
    · exact ⟨hl.coherent hc, fun _ => hl.streamBit_eq⟩
    · refine ⟨detachRewind_coherent (h.noDirect_of_command hphase), fun hkept => ?_⟩
      exact absurd rfl (hkept.resolve_left (Mode.ne_of_decodes hdecodes rfl))
  · obtain ⟨inp, u, hl, hleft, hend, rfl, -⟩ := step_element h hf hstep
    have hrun := h.running (expectedIn_of_expectedFormat hf) hl hleft
    rw [settle_mode] at herror
    rw [settle_input]
    have hl' : s.input.Leads s.params.inCap u.input := hl.trans (hend.leads hrun herror)
    exact ⟨hl'.coherent hc, fun _ => hl'.streamBit_eq⟩

end Sys2Proof.Machine
end

section
/-! Emitting a list of bytes, one after another (R73, R80, R270). -/

namespace Sys2Proof.Machine

theorem emitAll_cons (b : Byte) (bs : List Byte) (s : State) : emitAll (b :: bs) s = emitAll bs (emit b s) := rfl

/-! ## The window (R73) -/

theorem emitAll_wf (bs : List Byte) {s : State} (hwf : s.win.wf = true) : (emitAll bs s).win.wf = true := by
  induction bs generalizing s with
  | nil => exact hwf
  | cons b bs ih => exact ih (emit_wf b hwf)

theorem emit_winPos_toNat (b : Byte) (s : State) : (emit b s).winPos.toNat = (s.winPos.toNat + 1) % 32768 := by
  rw [emit_winPos, BitVec.toNat_add]
  rfl

theorem emitAll_winPos_toNat (bs : List Byte) (s : State) :
    (emitAll bs s).winPos.toNat = (s.winPos.toNat + bs.length) % 32768 := by
  induction bs generalizing s with
  | nil => exact (Nat.mod_eq_of_lt s.winPos.isLt).symm
  | cons b bs ih =>
    rw [emitAll_cons, ih, emit_winPos_toNat, List.length_cons]
    omega

/-- Each byte is at its place behind WIN_POS, modulo the window's size, and every other address reads as before. -/
theorem emitAll_win_read {bs : List Byte} {s : State} {a : Nat} (hwf : s.win.wf = true) (hlen : bs.length ≤ 32768)
    (ha : a < 32768) :
    (emitAll bs s).win.read a = (bs[(a + 32768 - s.winPos.toNat) % 32768]?).getD (s.win.read a) := by
  induction bs generalizing s with
  | nil => rfl
  | cons b bs ih =>
    have hpos : s.winPos.toNat < 32768 := s.winPos.isLt
    rw [List.length_cons] at hlen
    rw [emitAll_cons, ih (emit_wf b hwf) (by omega), emit_winPos_toNat, emit_win]
    by_cases hat : a = s.winPos.toNat
    · subst hat
      have hfirst : (s.winPos.toNat + 32768 - s.winPos.toNat) % 32768 = 0 := by omega
      have hlast : bs.length ≤ (s.winPos.toNat + 32768 - (s.winPos.toNat + 1) % 32768) % 32768 := by omega
      rw [hfirst, List.getElem?_eq_none hlast, Memory.read_write_same b hwf]
      rfl
    · have hnext : (a + 32768 - s.winPos.toNat) % 32768 = (a + 32768 - (s.winPos.toNat + 1) % 32768) % 32768 + 1 := by omega
      rw [hnext, List.getElem?_cons_succ, Memory.read_write_other b hwf hat]

/-! ## The response and STAGE (R80) -/

section
variable (b : Byte) (s : State)

theorem emit_rdResp : (emit b s).rdResp = s.rdResp ++ [b].take s.room := by
  unfold State.room
  rcases emit_cases b s with ⟨hroom, he⟩ | ⟨hfull, he⟩ <;> rw [he]
  · rw [List.take_of_length_le (Nat.sub_pos_of_lt hroom)]
  · simp [Nat.sub_eq_zero_of_le hfull]

theorem emit_room : (emit b s).room = s.room - 1 := by
  simp only [State.room, emit_rdCount, emit_rdResp, List.length_append, List.length_take, List.length_singleton]
  omega

theorem emit_stageLen : (emit b s).stageLen = s.stageLen + ([b].drop s.room).length := by
  unfold State.room
  rcases emit_cases b s with ⟨hroom, he⟩ | ⟨hfull, he⟩ <;> rw [he]
  · rw [List.drop_of_length_le (Nat.sub_pos_of_lt hroom)]; rfl
  · simp [Nat.sub_eq_zero_of_le hfull]

variable {s}

theorem emit_written (h : s.stageLen ≤ s.stage.length) : (emit b s).stageLen ≤ (emit b s).stage.length := by
  rcases emit_cases b s with ⟨-, he⟩ | ⟨-, he⟩ <;> rw [he]
  · exact h
  · simp [List.length_take_of_le h]

theorem emit_stagedBytes (hcursor : s.stagePos ≤ s.stageLen) (h : s.stageLen ≤ s.stage.length) :
    stagedBytes (emit b s) = stagedBytes s ++ [b].drop s.room := by
  unfold State.room
  rcases emit_cases b s with ⟨hroom, he⟩ | ⟨hfull, he⟩ <;> rw [he]
  · rw [List.drop_of_length_le (Nat.sub_pos_of_lt hroom), List.append_nil]; rfl
  · have htake : (s.stage.take s.stageLen).length = s.stageLen := List.length_take_of_le h
    have hslice : bufSlice (s.stage.take s.stageLen ++ [b]) s.stagePos (s.stageLen + 1 - s.stagePos) =
        bufSlice s.stage s.stagePos (s.stageLen - s.stagePos) ++ [b] := by
      rw [bufSlice_eq_take_drop (by simp [htake]; omega), bufSlice_eq_take_drop (by omega),
        List.take_of_length_le (by simp [htake]), List.drop_append_of_le_length (by omega), List.drop_take]
    rw [Nat.sub_eq_zero_of_le hfull]
    exact hslice

end

theorem emitAll_rdResp (bs : List Byte) (s : State) : (emitAll bs s).rdResp = s.rdResp ++ bs.take s.room := by
  induction bs generalizing s with
  | nil => simp [emitAll]
  | cons b bs ih =>
    have hsplit : (b :: bs).take s.room = [b].take s.room ++ bs.take (s.room - 1) := List.take_append (l₁ := [b])
    rw [emitAll_cons, ih, emit_rdResp, emit_room, hsplit, List.append_assoc]

theorem emitAll_stageLen (bs : List Byte) (s : State) :
    (emitAll bs s).stageLen = s.stageLen + (bs.drop s.room).length := by
  induction bs generalizing s with
  | nil => simp [emitAll]
  | cons b bs ih =>
    have hsplit : (b :: bs).drop s.room = [b].drop s.room ++ bs.drop (s.room - 1) := List.drop_append (l₁ := [b])
    rw [emitAll_cons, ih, emit_stageLen, emit_room, hsplit, List.length_append, Nat.add_assoc]

theorem emitAll_stagedBytes (bs : List Byte) {s : State} (hcursor : s.stagePos ≤ s.stageLen)
    (h : s.stageLen ≤ s.stage.length) : stagedBytes (emitAll bs s) = stagedBytes s ++ bs.drop s.room := by
  induction bs generalizing s with
  | nil => simp [emitAll]
  | cons b bs ih =>
    have hcursor' : (emit b s).stagePos ≤ (emit b s).stageLen := by
      rw [emit_stagePos, emit_stageLen]
      omega
    have hsplit : (b :: bs).drop s.room = [b].drop s.room ++ bs.drop (s.room - 1) := List.drop_append (l₁ := [b])
    rw [emitAll_cons, ih hcursor' (emit_written b h), emit_stagedBytes b hcursor h, emit_room, hsplit,
      List.append_assoc]

/-! ## The frame -/

/-- Emitting bytes changes the window, its cursor, the response and STAGE alone. -/
theorem emitAll_frame (bs : List Byte) (s : State) :
    ∃ win winPos rdResp stage stageLen, emitAll bs s =
      { s with win := win, winPos := winPos, rdResp := rdResp, stage := stage, stageLen := stageLen } := by
  induction bs generalizing s with
  | nil => exact ⟨_, _, _, _, _, rfl⟩
  | cons b bs ih =>
    obtain ⟨win, winPos, rdResp, stage, stageLen, h⟩ := ih (emit b s)
    rw [emitAll_cons, h]
    rcases emit_cases b s with ⟨-, he⟩ | ⟨-, he⟩ <;> rw [he] <;> exact ⟨_, _, _, _, _, rfl⟩

/-- Settles O32: the window, the response, STAGE and the frame, each by induction over the bytes. -/
theorem emittingFillsWindowAndOutput : Obligations.EmittingFillsWindowAndOutput := by
  intro bs s hwf hlen hcursor hwritten
  obtain ⟨win, winPos, rdResp, stage, stageLen, hframe⟩ := emitAll_frame bs s
  exact ⟨fun a ha => emitAll_win_read hwf hlen ha, emitAll_winPos_toNat bs s, emitAll_wf bs hwf, emitAll_rdResp bs s,
    emitAll_stagedBytes bs hcursor hwritten, by rw [hframe], emitAll_stageLen bs s, by rw [hframe]⟩

end Sys2Proof.Machine
end

section
/-! The decoder and the encoder undo each other, and the decoder selects by the rows' masks (R124, R130). -/

namespace Sys2Proof

/-! ## Decoding what was encoded -/

/-- The value of a well-formed instruction decodes to it (R124). -/
theorem decode_encode {i : Instr} (h : i.wellFormed = true) : decode (encode i).1 (encode i).2 = .ok i := by
  cases i with
  | blockStored f | blockFixed f | blockDynamic f | blockReserved f => cases f <;> rfl
  | storedHeader len nlen =>
    have hlen : BitVec.ofNat 16 (len.toNat + 65536 * nlen.toNat) = len := by bv_omega
    have hnlen : BitVec.ofNat 16 ((len.toNat + 65536 * nlen.toNat) / 65536) = nlen := by bv_omega
    have hv : len.toNat + 65536 * nlen.toNat < 4294967296 := by omega
    simp [decode, decodeStoredHeader, hv, hlen, hnlen]
  | storedByte b => simp [decode, decodeStoredByte, b.isLt]
  | dynamicHeader hlit hdist hclen =>
    have hv : hlit.toNat + 32 * hdist.toNat + 1024 * hclen.toNat < 16384 := by omega
    have hlit' : BitVec.ofNat 5 (hlit.toNat + 32 * hdist.toNat + 1024 * hclen.toNat) = hlit := by bv_omega
    have hdist' : BitVec.ofNat 5 ((hlit.toNat + 32 * hdist.toNat + 1024 * hclen.toNat) / 32) = hdist := by bv_omega
    have hclen' : BitVec.ofNat 4 ((hlit.toNat + 32 * hdist.toNat + 1024 * hclen.toNat) / 1024) = hclen := by bv_omega
    simp [decode, decodeDynamicHeader, hv, hlit', hdist', hclen']
  | clLen len => simp [decode, decodeClen, len.isLt]
  | lit b => simp [decode, decodeLitlen, b.isLt]
  | lenReserved sym =>
    obtain rfl | rfl : sym = 286 ∨ sym = 287 := by simpa [Instr.wellFormed] using h
    all_goals rfl
  | distReserved sym =>
    obtain (rfl | rfl) | rfl : (sym = 30 ∨ sym = 31) ∨ sym = dummySym := by simpa [Instr.wellFormed] using h
    all_goals rfl
  | cmdRead count =>
    have hcount : count ≤ 2147483647 := of_decide_eq_true h
    have hv : 4 * count < 8589934592 := by omega
    simp [decode, decodeCommand, hv]
  | _ => rfl

/-! ## Encoding what was decoded -/

section
variable {v : Nat} {i : Instr}

theorem ite_eq_ok {p : Prop} [Decidable p] {a : Instr} {r : Reject}
    (h : (if p then .ok a else .error r : Except Reject Instr) = .ok i) : p ∧ a = i := by
  split at h
  · exact ⟨‹_›, Except.ok.inj h⟩
  · simp at h

theorem encode_of_decode_blockHeader (h : decode .blockHeader v = .ok i) :
    i.wellFormed = true ∧ encode i = (.blockHeader, v) := by
  have hbit : (v.testBit 0).toNat = v % 2 := by rw [Nat.toNat_testBit, Nat.pow_zero, Nat.div_one]
  simp only [decode, decodeBlockHeader] at h
  split at h
  case h_5 => simp at h
  all_goals
    obtain rfl := Except.ok.inj h
    simp only [Instr.wellFormed, encode_blockStored, encode_blockFixed, encode_blockDynamic, encode_blockReserved, hbit,
      Prod.mk.injEq, true_and]
    omega

theorem encode_of_decode_storedHeader (h : decode .storedHeader v = .ok i) :
    i.wellFormed = true ∧ encode i = (.storedHeader, v) := by
  obtain ⟨hv, rfl⟩ := ite_eq_ok h
  simp [Instr.wellFormed]
  omega

theorem encode_of_decode_storedByte (h : decode .storedByte v = .ok i) : i.wellFormed = true ∧ encode i = (.storedByte, v) := by
  obtain ⟨hv, rfl⟩ := ite_eq_ok h
  simp [Instr.wellFormed]
  omega

theorem encode_of_decode_dynamicHeader (h : decode .dynamicHeader v = .ok i) :
    i.wellFormed = true ∧ encode i = (.dynamicHeader, v) := by
  obtain ⟨hv, rfl⟩ := ite_eq_ok h
  simp [Instr.wellFormed]
  omega

theorem encode_of_decode_clenSymbol (h : decode .clenSymbol v = .ok i) : i.wellFormed = true ∧ encode i = (.clenSymbol, v) := by
  simp only [decode, decodeClen] at h
  split at h
  · obtain rfl := Except.ok.inj h
    simp [Instr.wellFormed]
    omega
  · split at h
    case h_4 => simp at h
    all_goals
      obtain rfl := Except.ok.inj h
      exact ⟨rfl, rfl⟩

/-- The length symbols are numbered from 257 on (R112). -/
theorem encode_of_lengthInstrs {k : Nat} (h : lengthInstrs[k]? = some i) :
    i.wellFormed = true ∧ encode i = (.litlenSymbol, 257 + k) := by
  have hall : ∀ j : Fin lengthInstrs.length,
      lengthInstrs[j].wellFormed = true ∧ encode lengthInstrs[j] = (.litlenSymbol, 257 + j.val) := by
    decide
  obtain ⟨hk, rfl⟩ := List.getElem?_eq_some_iff.mp h
  exact hall ⟨k, hk⟩

/-- The distance symbols are numbered from 0 on (R113). -/
theorem encode_of_distanceInstrs {k : Nat} (h : distanceInstrs[k]? = some i) :
    i.wellFormed = true ∧ encode i = (.distSymbol, k) := by
  have hall : ∀ j : Fin distanceInstrs.length,
      distanceInstrs[j].wellFormed = true ∧ encode distanceInstrs[j] = (.distSymbol, j.val) := by
    decide
  obtain ⟨hk, rfl⟩ := List.getElem?_eq_some_iff.mp h
  exact hall ⟨k, hk⟩

theorem encode_of_decode_litlenSymbol (h : decode .litlenSymbol v = .ok i) :
    i.wellFormed = true ∧ encode i = (.litlenSymbol, v) := by
  simp only [decode, decodeLitlen] at h
  split at h
  · obtain rfl := Except.ok.inj h
    simp [Instr.wellFormed]
    omega
  · split at h
    · obtain rfl := Except.ok.inj h
      subst v
      exact ⟨rfl, rfl⟩
    · split at h
      · obtain rfl := Except.ok.inj h
        obtain rfl | rfl := ‹v = 286 ∨ v = 287›
        all_goals exact ⟨rfl, rfl⟩
      · split at h
        · obtain rfl := Except.ok.inj h
          rename_i hget
          have hv : 257 + (v - 257) = v := by omega
          simpa only [hv] using encode_of_lengthInstrs hget
        · simp at h

theorem encode_of_decode_distSymbol (h : decode .distSymbol v = .ok i) : i.wellFormed = true ∧ encode i = (.distSymbol, v) := by
  simp only [decode, decodeDist] at h
  split at h
  · obtain rfl := Except.ok.inj h
    obtain rfl | rfl | rfl := ‹v = 30 ∨ v = 31 ∨ v = dummySym›
    all_goals exact ⟨rfl, rfl⟩
  · split at h
    · obtain rfl := Except.ok.inj h
      exact encode_of_distanceInstrs ‹_›
    · simp at h

/-- A command word has its code in the two low bits and READ's count above them (R130). -/
theorem decode_command_eq (h : decode .command v = .ok i) :
    v < 8589934592 ∧ (v % 4 = 0 ∧ i = .cmdRead (v / 4) ∨ v % 4 = 1 ∧ i = .cmdDetach ∨ v % 4 = 2 ∧ i = .cmdAttach ∨
      v % 4 = 3 ∧ i = .cmdClose) := by
  simp only [decode, decodeCommand] at h
  split at h
  · refine ⟨‹_›, ?_⟩
    obtain hcode | hcode | hcode | hcode : v % 4 = 0 ∨ v % 4 = 1 ∨ v % 4 = 2 ∨ v % 4 = 3 := by omega
    all_goals
      rw [hcode] at h
      obtain rfl := Except.ok.inj h
      simp [hcode]
  · simp at h

theorem encode_of_decode_command (h : decode .command v = .ok i) (hbits : v % 4 = 0 ∨ v < 4) :
    i.wellFormed = true ∧ encode i = (.command, v) := by
  obtain ⟨hv, ⟨hcode, rfl⟩ | ⟨hcode, rfl⟩ | ⟨hcode, rfl⟩ | ⟨hcode, rfl⟩⟩ := decode_command_eq h
  · refine ⟨decide_eq_true ?_, ?_⟩
    · rw [Config.readMax]
      omega
    · rw [encode_cmdRead]
      congr 1
      omega
  · obtain rfl : v = 1 := by omega
    exact ⟨rfl, rfl⟩
  · obtain rfl : v = 2 := by omega
    exact ⟨rfl, rfl⟩
  · obtain rfl : v = 3 := by omega
    exact ⟨rfl, rfl⟩

/-- A value that decodes is the value of what it decodes to; of the commands READ alone has count bits (R124, R130). -/
theorem encode_of_decode {f : Format} (h : decode f v = .ok i) (hbits : f = .command → v % 4 = 0 ∨ v < 4) :
    i.wellFormed = true ∧ encode i = (f, v) := by
  cases f with
  | blockHeader => exact encode_of_decode_blockHeader h
  | storedHeader => exact encode_of_decode_storedHeader h
  | storedByte => exact encode_of_decode_storedByte h
  | dynamicHeader => exact encode_of_decode_dynamicHeader h
  | clenSymbol => exact encode_of_decode_clenSymbol h
  | litlenSymbol => exact encode_of_decode_litlenSymbol h
  | distSymbol => exact encode_of_decode_distSymbol h
  | command => exact encode_of_decode_command h (hbits rfl)

end

/-- Settles O1: per constructor one way, per format the other. -/
theorem decodeAndEncodeAgree : Obligations.DecodeAndEncodeAgree :=
  ⟨fun _ => decode_encode, fun _ _ _ => encode_of_decode⟩

/-! ## The rows' masks (R124) -/

/-- An instruction of each row of spec/opcode_table.json. -/
def rowInstrs : List Instr :=
  ([.blockStored false, .blockFixed false, .blockDynamic false, .blockReserved false, .storedHeader 0#16 0#16, .storedByte 0#8,
   .dynamicHeader 0#5 0#5 0#4, .clLen 0#4, .clRepeatPrev, .clZeroShort, .clZeroLong, .lit 0#8, .eob, .lenReserved 286,
   .distReserved 30, .cmdRead 0, .cmdDetach, .cmdAttach, .cmdClose] : List Instr) ++ (lengthInstrs ++ distanceInstrs)

theorem Instr.row_mem (i : Instr) : i.row ∈ rowInstrs.map Instr.row :=
  List.contains_iff_mem.mp (by cases i <;> rfl)

/-- Two rows of a format differ in a bit that both of them fix. -/
theorem rows_disjoint : ∀ r ∈ rowInstrs.map Instr.row, ∀ r' ∈ rowInstrs.map Instr.row, r.format = r'.format →
    r.pattern &&& r'.mask = r'.pattern &&& r.mask → r = r' := by
  decide +kernel

/-- A value has the masked bits of one row of a format at most. -/
theorem row_unique {v : Nat} {i j : Instr} (hf : i.row.format = j.row.format) (hi : v &&& i.row.mask = i.row.pattern)
    (hj : v &&& j.row.mask = j.row.pattern) : i.row = j.row :=
  rows_disjoint _ i.row_mem _ j.row_mem hf (by rw [← hi, ← hj]; exact Nat.and_right_comm _ _ _)

theorem and_two_pow_of_lt {x n : Nat} (h : x < 2 ^ n) : x &&& 2 ^ n = 0 := by
  rw [Nat.and_two_pow, Nat.testBit_lt_two_pow h, Bool.toNat_false, Nat.zero_mul]

/-- The value of a well-formed instruction has the masked bits of its row; DUMMY is no symbol number and has no row of its own
(R124, R342). -/
theorem encode_and_mask {i : Instr} (h : i.wellFormed = true) (hdummy : i ≠ .distReserved dummySym) :
    (encode i).2 &&& i.row.mask = i.row.pattern := by
  cases i with
  | blockStored f | blockFixed f | blockDynamic f | blockReserved f => cases f <;> rfl
  | storedHeader len nlen => exact Nat.and_zero _
  | storedByte b => exact Nat.and_zero _
  | dynamicHeader hlit hdist hclen => exact Nat.and_zero _
  | clLen len =>
    rw [encode_clLen, Nat.zero_add]
    exact and_two_pow_of_lt (n := 4) len.isLt
  | lit b =>
    rw [encode_lit, Nat.zero_add]
    exact and_two_pow_of_lt (n := 8) b.isLt
  | lenReserved sym =>
    obtain rfl | rfl : sym = 286 ∨ sym = 287 := by simpa [Instr.wellFormed] using h
    all_goals rfl
  | distReserved sym =>
    obtain (rfl | rfl) | rfl : (sym = 30 ∨ sym = 31) ∨ sym = dummySym := by simpa [Instr.wellFormed] using h
    · rfl
    · rfl
    · exact absurd rfl hdummy
  | cmdRead count =>
    rw [encode_cmdRead, Nat.zero_add]
    exact (Nat.and_two_pow_sub_one_eq_mod _ 2).trans (Nat.mul_mod_right 4 count)
  | _ => rfl

/-- A value's row is of its format, and the value has the row's masked bits (R124). -/
theorem row_of_decode {f : Format} {v : Nat} {i : Instr} (hv : v < 2 ^ f.width) (h : decode f v = .ok i) :
    i.row.format = f ∧ v &&& i.row.mask = i.row.pattern := by
  by_cases hf : f = .command
  · subst hf
    have hand : v &&& 3 = v % 4 := Nat.and_two_pow_sub_one_eq_mod v 2
    obtain ⟨-, ⟨hcode, rfl⟩ | ⟨hcode, rfl⟩ | ⟨hcode, rfl⟩ | ⟨hcode, rfl⟩⟩ := decode_command_eq h
    all_goals exact ⟨rfl, hand.trans hcode⟩
  · obtain ⟨hwf, hencode⟩ := encode_of_decode h fun hc => absurd hc hf
    obtain ⟨rfl, rfl⟩ := Prod.mk.inj hencode
    refine ⟨rfl, encode_and_mask hwf ?_⟩
    rintro rfl
    exact absurd hv (by decide)

/-- How many values of a format are elements: the alphabets of the symbols, DUMMY among the distance symbols (R107 to R109,
R342), and every value of the other formats. -/
def Format.values : Format → Nat
  | .clenSymbol => 19
  | .litlenSymbol => 288
  | .distSymbol => 33
  | f => 2 ^ f.width

section
variable {v : Nat}

theorem exists_ite_eq_error {p : Prop} [Decidable p] {i : Instr} {r : Reject} :
    (∃ e, (if p then .ok i else .error r : Except Reject Instr) = .error e) ↔ ¬p := by
  split <;> simp [*]

theorem decodeBlockHeader_error_iff : (∃ e, decodeBlockHeader v = .error e) ↔ 8 ≤ v := by
  unfold decodeBlockHeader
  rcases h : v / 2 with _ | _ | _ | _ | n
  all_goals
    simp
    omega

theorem decodeClen_error_iff : (∃ e, decodeClen v = .error e) ↔ 19 ≤ v := by
  unfold decodeClen
  split
  · simp
    omega
  · obtain ⟨n, rfl⟩ : ∃ n, v = n + 16 := ⟨v - 16, by omega⟩
    rcases n with _ | _ | _ | n <;> simp

theorem decodeLitlen_error_iff : (∃ e, decodeLitlen v = .error e) ↔ 288 ≤ v := by
  unfold decodeLitlen
  split
  · simp
    omega
  · split
    · simp
      omega
    · split
      · simp
        omega
      · have hlen : lengthInstrs.length = 29 := rfl
        split
        · have := (List.getElem?_eq_some_iff.mp ‹_›).1
          simp
          omega
        · have := List.getElem?_eq_none_iff.mp ‹_›
          simp
          omega

theorem decodeDist_error_iff : (∃ e, decodeDist v = .error e) ↔ 33 ≤ v := by
  unfold decodeDist dummySym
  split
  · simp
    omega
  · have hlen : distanceInstrs.length = 30 := rfl
    split
    · have := (List.getElem?_eq_some_iff.mp ‹_›).1
      simp
      omega
    · have := List.getElem?_eq_none_iff.mp ‹_›
      simp
      omega

theorem decodeCommand_error_iff : (∃ e, decodeCommand v = .error e) ↔ 8589934592 ≤ v := by
  unfold decodeCommand
  split
  · split <;> simp <;> omega
  · simp
    omega

/-- The values a format's decoder rejects (R107 to R109, R124). -/
theorem decode_error_iff {f : Format} : (∃ e, decode f v = .error e) ↔ f.values ≤ v := by
  cases f with
  | blockHeader => exact decodeBlockHeader_error_iff
  | clenSymbol => exact decodeClen_error_iff
  | litlenSymbol => exact decodeLitlen_error_iff
  | distSymbol => exact decodeDist_error_iff
  | storedHeader => exact exists_ite_eq_error.trans Nat.not_lt
  | storedByte => exact exists_ite_eq_error.trans Nat.not_lt
  | dynamicHeader => exact exists_ite_eq_error.trans Nat.not_lt
  | command => exact decodeCommand_error_iff

end

/-- Settles O2: a value has its row's masked bits, two rows of a format exclude each other, and of the formats' values only
symbol numbers are rejected. -/
theorem decodeSelectsMatchingRow : Obligations.DecodeSelectsMatchingRow := by
  intro f v hv
  refine ⟨fun i hi => ?_, ?_⟩
  · obtain ⟨rfl, hmask⟩ := row_of_decode hv hi
    exact ⟨rfl, fun j hj => ⟨fun hjmask => row_unique hj hjmask hmask, fun hrow => hrow ▸ hmask⟩⟩
  · rw [decode_error_iff]
    cases f with
    | clenSymbol | litlenSymbol => simp [Format.values]
    | distSymbol => simpa [Format.values] using hv.trans_le (by decide)
    | _ => simpa [Format.values] using hv

/-- Settles O3: each value is decoded. -/
theorem writtenOutWordsDecode : Obligations.WrittenOutWordsDecode := by
  unfold Obligations.WrittenOutWordsDecode
  decide

end Sys2Proof
end

section
/-! Headers and stored bytes as fields of the stream: their values are the next bits ahead, the first as bit 0 (R101, R103, R105,
R151, R217). -/

namespace Sys2Proof.Machine

/-! ## Stream bits as numbers -/

theorem packBits_append (as bs : List Bool) : packBits (as ++ bs) = packBits as + 2 ^ as.length * packBits bs := by
  induction as with
  | nil => simp [packBits]
  | cons a as ih =>
    simp only [List.cons_append, packBits, ih, List.length_cons, Nat.pow_succ']
    ring

theorem packBits_lt (bs : List Bool) : packBits bs < 2 ^ bs.length := by
  induction bs with
  | nil => exact Nat.one_pos
  | cons b bs ih =>
    have hb : b.toNat ≤ 1 := Bool.toNat_le b
    simp only [packBits, List.length_cons, Nat.pow_succ']
    omega

/-! ## Fields -/

/-- `op` reads a field of `n` bits where they are ahead: the next ones, the first as bit 0. -/
def ReadsField (cap n : Nat) (op : Input → InRes Nat) : Prop :=
  ∀ inp : Input, inp.Ready cap → n ≤ inp.ahead.length →
    ∃ inp', op inp = .ok (packBits (inp.ahead.take n)) inp' ∧ inp'.ahead = inp.ahead.drop n ∧ inp'.Ready cap

section
variable {cap n m : Nat} {op op' : Input → InRes Nat}

theorem readBits_readsField (hn : n ≤ 16) : ReadsField cap n (readBits cap n) := by
  intro inp h hlen
  have hdo := readBits_does h hn
  rw [Parse.field, if_pos hlen] at hdo
  obtain ⟨inp', hr, ha, -, hready⟩ := hdo.of_value
  exact ⟨inp', hr, ha, hready⟩

/-- Two fields read one after another are one, the second above the first. -/
theorem ReadsField.append (h : ReadsField cap n op) (h' : ReadsField cap m op') :
    ReadsField cap (n + m) fun inp =>
      (op inp).andThen fun a inp₁ => (op' inp₁).andThen fun b inp₂ => .ok (a + 2 ^ n * b) inp₂ := by
  intro inp hready hlen
  obtain ⟨inp₁, hr₁, ha₁, hready₁⟩ := h inp hready (by omega)
  obtain ⟨inp₂, hr₂, ha₂, hready₂⟩ := h' inp₁ hready₁ (by rw [ha₁, List.length_drop]; omega)
  refine ⟨inp₂, ?_, by rw [ha₂, ha₁, List.drop_drop], hready₂⟩
  have hvalue : packBits (inp.ahead.take (n + m)) = packBits (inp.ahead.take n) + 2 ^ n * packBits (inp₁.ahead.take m) := by
    rw [ha₁, List.take_add, packBits_append, List.length_take_of_le (by omega)]
  simp only [hr₁, InRes.andThen_of_ok, hr₂, hvalue]

theorem InRes.andThen_assoc {α β γ : Type} (r : InRes α) (k : α → Input → InRes β) (l : β → Input → InRes γ) :
    (r.andThen k).andThen l = r.andThen fun a inp => (k a inp).andThen l := by
  cases r <;> rfl

/-- BFINAL, then BTYPE (R101, R211). -/
theorem readBlockHeader_readsField : ReadsField cap 3 (readBlockHeader cap) :=
  (readBits_readsField (n := 1) (by decide)).append (readBits_readsField (n := 2) (by decide))

/-- LEN, then NLEN (R103, R212). -/
theorem readStoredHeader_readsField : ReadsField cap 32 (readStoredHeader cap) :=
  (readBits_readsField (n := 16) (by decide)).append (readBits_readsField (n := 16) (by decide))

/-- HLIT, then HDIST, then HCLEN (R105, R220). -/
theorem readDynamicHeader_readsField : ReadsField cap 14 (readDynamicHeader cap) := by
  have h : ReadsField cap (5 + (5 + 4)) _ := (readBits_readsField (by decide)).append
    ((readBits_readsField (by decide)).append (readBits_readsField (by decide)))
  simp only [InRes.andThen_assoc, InRes.andThen_of_ok, Nat.mul_add, ← Nat.mul_assoc, ← Nat.add_assoc] at h
  exact h

end

/-- A stored-byte step's byte is the next 8 bits ahead (R217). -/
theorem readStoredByte_eq {cap m : Nat} {inp : Input} (h : inp.StoredReady cap m) (hm : 1 ≤ m) (hlen : 8 ≤ inp.ahead.length) :
    ∃ b inp', readStoredByte cap m inp = .ok b inp' ∧ b.toNat = packBits (inp.ahead.take 8) ∧
      inp'.ahead = inp.ahead.drop 8 := by
  have hdo := readStoredByte_does h hm
  rw [Parse.byte, if_pos hlen] at hdo
  obtain ⟨inp', hr, ha, -⟩ := hdo.of_value
  have hlt := packBits_lt (inp.ahead.take 8)
  rw [List.length_take_of_le hlen] at hlt
  exact ⟨_, inp', hr, by rw [BitVec.toNat_ofNat, Nat.mod_eq_of_lt hlt], ha⟩

/-! ## The step -/

/-- The value of a header or of a stored byte is the number its format's bits ahead form (R124). -/
theorem fetchValue_field {s : State} {f : Format} (h : Inv s) (hf : expectedFormat s = some f)
    (hfield : f = .blockHeader ∨ f = .storedHeader ∨ f = .storedByte ∨ f = .dynamicHeader)
    (hlen : f.width ≤ s.input.ahead.length) :
    ∃ inp', fetchValue f s = .ok (packBits (s.input.ahead.take f.width)) inp' ∧ inp'.ahead = s.input.ahead.drop f.width := by
  have hin := expectedIn_of_expectedFormat hf
  have hready : f ≠ .storedByte → s.input.Ready s.params.inCap := fun hne =>
    h.ready_of_decodes (h.decodes_of_expected hin) fun hs => hne ((storedByte_of_expected hin).mpr hs)
  have hheader : ∀ op, f ≠ .storedByte → ReadsField s.params.inCap f.width op →
      ∃ inp', op s.input = .ok (packBits (s.input.ahead.take f.width)) inp' ∧ inp'.ahead = s.input.ahead.drop f.width := by
    intro op hne hop
    obtain ⟨inp', hr, ha, -⟩ := hop s.input (hready hne) hlen
    exact ⟨inp', hr, ha⟩
  rcases hfield with rfl | rfl | rfl | rfl
  · exact hheader _ (by decide) readBlockHeader_readsField
  · exact hheader _ (by decide) readStoredHeader_readsField
  · obtain ⟨b, inp', hr, hb, ha⟩ := readStoredByte_eq (h.storedReady hin.1 hin.2) (h.storedWant_pos hin.1 hin.2) hlen
    refine ⟨inp', ?_, ha⟩
    change (readStoredByte s.params.inCap s.storedWant s.input).andThen _ = _
    rw [hr, InRes.andThen_of_ok, hb]
    rfl
  · exact hheader _ (by decide) readDynamicHeader_readsField

/-- Settles O46: the step runs the value it fetches, which is the field's. -/
theorem fieldStepReadsStreamBits : Obligations.FieldStepReadsStreamBits := by
  intro s f hinv hf hfield hlen
  obtain ⟨inp', hr, ha⟩ := fetchValue_field hinv hf hfield hlen
  exact ⟨inp', by rw [step_of_expectedFormat hf, hr, onInput_of_ok], ha⟩

end Sys2Proof.Machine
end

section
/-! The length and distance symbols cut their ranges into intervals that follow each other without a gap (R112 to R115, R136). -/

namespace Sys2Proof.Machine

/-! ## Intervals one behind another -/

section
variable {base size : Nat → Nat} {a n : Nat} (h : ∀ s, a ≤ s → s < a + n → base (s + 1) = base s + size s)
include h

/-- Each interval ends before every later one starts. -/
theorem interval_end_le {s t : Nat} (hs : a ≤ s) (hst : s < t) (ht : t ≤ a + n) : base s + size s ≤ base t := by
  induction t, hst using Nat.le_induction with
  | base => exact (h s hs ht).ge
  | succ t hst ih =>
    rw [h t (by omega) (by omega)]
    exact (ih (by omega)).trans (Nat.le_add_right _ _)

theorem exists_interval {x : Nat} (hlo : base a ≤ x) (hhi : x < base (a + n) + size (a + n)) :
    ∃ s, a ≤ s ∧ s ≤ a + n ∧ base s ≤ x ∧ x < base s + size s := by
  induction n with
  | zero => exact ⟨a, le_rfl, le_rfl, hlo, hhi⟩
  | succ n ih =>
    by_cases hlast : base (a + (n + 1)) ≤ x
    · exact ⟨a + (n + 1), Nat.le_add_right _ _, le_rfl, hlast, hhi⟩
    · have hnext := h (a + n) (by omega) (by omega)
      rw [← Nat.add_assoc] at hlast
      obtain ⟨s, hs, hsn, hx⟩ := ih (fun s hs hsn => h s hs (by omega)) (by omega)
      exact ⟨s, hs, by omega, hx⟩

/-- A number in the whole range is in exactly one of the intervals. -/
theorem existsUnique_interval {x b : Nat} (hend : base (a + n) + size (a + n) = b) (hlo : base a ≤ x) (hhi : x < b) :
    ∃! p : Nat × Nat, a ≤ p.1 ∧ p.1 ≤ a + n ∧ p.2 < size p.1 ∧ base p.1 + p.2 = x := by
  obtain ⟨s, hs, hsn, hle, hlt⟩ := exists_interval h hlo (hend ▸ hhi)
  refine ⟨(s, x - base s), ⟨hs, hsn, by dsimp only; omega, by dsimp only; omega⟩, ?_⟩
  rintro ⟨t, y⟩ ⟨ht, htn, hy, rfl⟩
  dsimp only at *
  obtain rfl : t = s := by
    rcases Nat.lt_trichotomy t s with hts | hts | hts
    · have := interval_end_le h ht hts hsn
      omega
    · exact hts
    · have := interval_end_le h hs hts htn
      omega
  rw [Nat.add_sub_cancel_left]

end

/-! ## Lengths (R112, R136) -/

/-- How many lengths are a symbol's alone: all that its extra bits reach but 258, which is left to symbol 285 (R136). -/
def ownLengths (s : Nat) : Nat := if s = 284 then 31 else 2 ^ (lengthOperand s).extra

theorem lengthOperand_succ_base : ∀ s, 257 ≤ s → s < 257 + 28 →
    (lengthOperand (s + 1)).base = (lengthOperand s).base + ownLengths s := by
  decide

theorem lengthOperand_range : ∀ s, 257 ≤ s → s ≤ 285 →
    3 ≤ (lengthOperand s).base ∧ (lengthOperand s).base + 2 ^ (lengthOperand s).extra ≤ 259 := by
  decide

theorem lt_ownLengths_iff {s x : Nat} : x < ownLengths s ↔ x < 2 ^ (lengthOperand s).extra ∧ (s, x) ≠ (284, 31) := by
  unfold ownLengths
  split
  · subst s
    have hextra : (lengthOperand 284).extra = 5 := rfl
    simp [hextra]
    omega
  · simp [*]

/-! ## Distances (R113) -/

theorem distanceOperand_succ_base : ∀ d, 0 ≤ d → d < 0 + 29 →
    (distanceOperand (d + 1)).base = (distanceOperand d).base + 2 ^ (distanceOperand d).extra := by
  decide

theorem distanceOperand_range : ∀ d, d ≤ 29 →
    1 ≤ (distanceOperand d).base ∧ (distanceOperand d).base + 2 ^ (distanceOperand d).extra ≤ 32769 := by
  decide

/-- Settles O4: the symbols' intervals follow each other from 3 to 258 and from 1 to 32768, but for symbol 284's last length. -/
theorem everyLengthAndDistanceHasOneSymbol : Obligations.EveryLengthAndDistanceHasOneSymbol := by
  refine ⟨fun len hlo hhi => ?_, fun s x hlo hhi hx => ?_, fun dist hlo hhi => ?_, fun d x hd hx => ?_⟩
  · have hone := existsUnique_interval (base := fun s => (lengthOperand s).base) (size := ownLengths)
      lengthOperand_succ_base (b := 259) rfl hlo (Nat.lt_succ_of_le hhi)
    refine (existsUnique_congr fun p => ?_).mp hone
    rw [lt_ownLengths_iff]
    exact ⟨fun ⟨hfirst, hlast, ⟨hextra, hother⟩, hlen⟩ => ⟨hfirst, hlast, hextra, hlen, hother⟩,
      fun ⟨hfirst, hlast, hextra, hlen, hother⟩ => ⟨hfirst, hlast, ⟨hextra, hother⟩, hlen⟩⟩
  · have := lengthOperand_range s hlo hhi
    omega
  · have hone := existsUnique_interval (base := fun d => (distanceOperand d).base)
      (size := fun d => 2 ^ (distanceOperand d).extra) distanceOperand_succ_base (b := 32769) rfl hlo (Nat.lt_succ_of_le hhi)
    exact (existsUnique_congr fun p => and_iff_right (Nat.zero_le _)).mp hone
  · have := distanceOperand_range d hd
    omega

end Sys2Proof.Machine
end

section
/-! The fixed trees against the builder, and their code words (R118 to R120, R188). A word read first-bit-first is followed
depth by depth: in each depth the nodes are numbered one after another, so the word's value counts them. -/

namespace Sys2Proof.Machine

/-! ## Following a word by its value (R182, R190) -/

theorem bitsMsbFirst_succ (n v : Nat) : bitsMsbFirst (n + 1) v = bitsMsbFirst n (v / 2) ++ [v.testBit 0] := by
  rw [bitsMsbFirst, List.range_succ, List.map_append]
  congr 1
  · refine List.map_congr_left fun j hj => ?_
    rw [Nat.testBit_div_two]
    congr 1
    have := List.mem_range.mp hj
    omega
  · simp

theorem Tree.follow_concat {t : Tree} {k k' : Nat} {w : List Bool} {b : Bool} {slot : Slot}
    (hw : t.follow k w = some (.node k')) (hb : t.child k' b = some slot) : t.follow k (w ++ [b]) = some slot := by
  induction w generalizing k with
  | nil =>
    obtain rfl : k = k' := by simpa [Tree.follow] using hw
    cases slot <;> simp [Tree.follow, hb]
  | cons b' w ih =>
    cases hc : t.child k b' with
    | none => simp [Tree.follow, hc] at hw
    | some slot' =>
      cases slot' with
      | node k₁ =>
        rw [Tree.follow, hc] at hw
        rw [List.cons_append, Tree.follow, hc]
        exact ih hw
      | opn | leaf s | dummy => simp [Tree.follow, hc] at hw

/-- Where the nodes of a depth are numbered from `c` on by the words that lead to them, the words one bit longer number the slots
of the next depth from `2 * c` on. -/
theorem Tree.follow_bitsMsbFirst_succ {t : Tree} {n c v i : Nat} {slot : Slot}
    (hnode : t.follow 0 (bitsMsbFirst n (v / 2)) = some (.node (c + v / 2))) (hi : i = 2 * c + v) (hslot : t[i]? = some slot) :
    t.follow 0 (bitsMsbFirst (n + 1) v) = some slot := by
  rw [bitsMsbFirst_succ]
  refine Tree.follow_concat hnode ?_
  have hindex : 2 * (c + v / 2) + (v.testBit 0).toNat = i := by
    rw [hi, Nat.toNat_testBit, Nat.pow_zero, Nat.div_one]
    omega
  rw [Tree.child, hindex, hslot]

/-- In a tree whose first `m` slots are the nodes in order, the words of a depth among these lead to the nodes in order. -/
theorem Tree.follow_nodes {t : Tree} {m : Nat} (hnodes : ∀ i < m, t[i]? = some (.node (i + 1))) {n v : Nat}
    (hn : 2 ^ (n + 1) ≤ m + 2) (hv : v < 2 ^ n) : t.follow 0 (bitsMsbFirst n v) = some (.node (2 ^ n - 1 + v)) := by
  induction n generalizing v with
  | zero =>
    obtain rfl : v = 0 := by omega
    rfl
  | succ n ih =>
    have hpos := Nat.two_pow_pos n
    rw [Nat.pow_succ] at hn hv
    rw [Tree.follow_bitsMsbFirst_succ (ih (by omega) (by omega)) rfl (hnodes _ (by omega))]
    congr 2
    rw [Nat.pow_succ]
    omega

/-! ## Runs of nodes and leaves -/

section
variable {i k n : Nat} {t : Tree}

theorem leafRun_getElem? (h : i < n) : (leafRun k n)[i]? = some (.leaf (k + i)) := by
  simp [leafRun, h]

theorem leafRun_append_inside (h : i < n) : (leafRun k n ++ t)[i]? = some (.leaf (k + i)) := by
  rw [List.getElem?_append_left (by simpa [leafRun] using h), leafRun_getElem? h]

theorem leafRun_append_beyond (h : n ≤ i) : (leafRun k n ++ t)[i]? = t[i - n]? := by
  rw [List.getElem?_append_right (by simpa [leafRun] using h)]
  simp [leafRun]

theorem nodeRun_append_inside (h : i < n) : (nodeRun k n ++ t)[i]? = some (.node (k + i)) := by
  rw [List.getElem?_append_left (by simpa [nodeRun] using h)]
  simp [nodeRun, h]

theorem nodeRun_append_beyond (h : n ≤ i) : (nodeRun k n ++ t)[i]? = t[i - n]? := by
  rw [List.getElem?_append_right (by simpa [nodeRun] using h)]
  simp [nodeRun]

end

/-! ## The fixed literal/length code (R119) -/

section
variable {v : Nat}

/-- The slots of the fixed literal/length tree, run by run. -/
theorem fixedLitlenTree_getElem? (i : Nat) :
    (i < 126 → fixedLitlenTree[i]? = some (.node (i + 1))) ∧
    (i < 24 → fixedLitlenTree[126 + i]? = some (.leaf (256 + i))) ∧
    (i < 104 → fixedLitlenTree[150 + i]? = some (.node (127 + i))) ∧
    (i < 144 → fixedLitlenTree[254 + i]? = some (.leaf i)) ∧
    (i < 8 → fixedLitlenTree[398 + i]? = some (.leaf (280 + i))) ∧
    (i < 56 → fixedLitlenTree[406 + i]? = some (.node (231 + i))) ∧
    (i < 112 → fixedLitlenTree[462 + i]? = some (.leaf (144 + i))) := by
  refine ⟨?_, ?_, ?_, ?_, ?_, ?_, ?_⟩
  all_goals
    intro h
    simp (disch := omega) only [fixedLitlenTree, nodeRun_append_inside, nodeRun_append_beyond, leafRun_append_inside,
      leafRun_append_beyond, leafRun_getElem?, Option.some.injEq, Slot.leaf.injEq, Slot.node.injEq]
    omega

theorem fixedLitlenTree_follow_six (hv : v < 64) : fixedLitlenTree.follow 0 (bitsMsbFirst 6 v) = some (.node (63 + v)) :=
  Tree.follow_nodes (fun i hi => (fixedLitlenTree_getElem? i).1 hi) (by decide) hv

theorem fixedLitlenTree_follow_seven (hlo : 24 ≤ v) (hv : v < 128) :
    fixedLitlenTree.follow 0 (bitsMsbFirst 7 v) = some (.node (103 + v)) := by
  obtain ⟨-, -, hslot, -⟩ := fixedLitlenTree_getElem? (v - 24)
  have hslot := hslot (by omega)
  rw [show 127 + (v - 24) = 103 + v by omega] at hslot
  exact Tree.follow_bitsMsbFirst_succ (fixedLitlenTree_follow_six (by omega)) (by omega) hslot

theorem fixedLitlenTree_follow_eight (hlo : 200 ≤ v) (hv : v < 256) :
    fixedLitlenTree.follow 0 (bitsMsbFirst 8 v) = some (.node (31 + v)) := by
  obtain ⟨-, -, -, -, -, hslot, -⟩ := fixedLitlenTree_getElem? (v - 200)
  have hslot := hslot (by omega)
  rw [show 231 + (v - 200) = 31 + v by omega] at hslot
  exact Tree.follow_bitsMsbFirst_succ (fixedLitlenTree_follow_seven (by omega) (by omega)) (by omega) hslot

/-- The code words of 256..279 (R119). -/
theorem fixedLitlenTree_follow_256 {j : Nat} (hj : j < 24) :
    fixedLitlenTree.follow 0 (bitsMsbFirst 7 j) = some (.leaf (256 + j)) := by
  obtain ⟨-, hslot, -⟩ := fixedLitlenTree_getElem? j
  exact Tree.follow_bitsMsbFirst_succ (fixedLitlenTree_follow_six (by omega)) (by omega) (hslot hj)

/-- The code words of 0..143 (R119). -/
theorem fixedLitlenTree_follow_0 {j : Nat} (hj : j < 144) :
    fixedLitlenTree.follow 0 (bitsMsbFirst 8 (0x30 + j)) = some (.leaf j) := by
  obtain ⟨-, -, -, hslot, -⟩ := fixedLitlenTree_getElem? j
  exact Tree.follow_bitsMsbFirst_succ (fixedLitlenTree_follow_seven (by omega) (by omega)) (by omega) (hslot hj)

/-- The code words of 280..287 (R119). -/
theorem fixedLitlenTree_follow_280 {j : Nat} (hj : j < 8) :
    fixedLitlenTree.follow 0 (bitsMsbFirst 8 (0xC0 + j)) = some (.leaf (280 + j)) := by
  obtain ⟨-, -, -, -, hslot, -⟩ := fixedLitlenTree_getElem? j
  exact Tree.follow_bitsMsbFirst_succ (fixedLitlenTree_follow_seven (by omega) (by omega)) (by omega) (hslot hj)

/-- The code words of 144..255 (R119). -/
theorem fixedLitlenTree_follow_144 {j : Nat} (hj : j < 112) :
    fixedLitlenTree.follow 0 (bitsMsbFirst 9 (0x190 + j)) = some (.leaf (144 + j)) := by
  obtain ⟨-, -, -, -, -, -, hslot⟩ := fixedLitlenTree_getElem? j
  exact Tree.follow_bitsMsbFirst_succ (fixedLitlenTree_follow_eight (by omega) (by omega)) (by omega) (hslot hj)

end

/-! ## The fixed distance code (R120) -/

theorem fixedDistTree_getElem? (i : Nat) :
    (i < 30 → fixedDistTree[i]? = some (.node (i + 1))) ∧ (i < 32 → fixedDistTree[30 + i]? = some (.leaf i)) := by
  refine ⟨?_, ?_⟩
  all_goals
    intro h
    simp (disch := omega) only [fixedDistTree, nodeRun_append_inside, nodeRun_append_beyond, leafRun_getElem?,
      Option.some.injEq, Slot.leaf.injEq, Slot.node.injEq]
    omega

/-- The code words of the distance symbols (R120). -/
theorem fixedDistTree_follow {d : Nat} (hd : d < 32) : fixedDistTree.follow 0 (bitsMsbFirst 5 d) = some (.leaf d) := by
  have hnode : fixedDistTree.follow 0 (bitsMsbFirst 4 (d / 2)) = some (.node (15 + d / 2)) :=
    Tree.follow_nodes (fun i hi => (fixedDistTree_getElem? i).1 hi) (by decide) (by omega)
  exact Tree.follow_bitsMsbFirst_succ hnode (by omega) ((fixedDistTree_getElem? d).2 hd)

/-! ## The builder (R188) -/

theorem buildTree_fixedLitlenLens : buildTree fixedLitlenLens .litlen = .ok (some fixedLitlenTree) := by decide +kernel

theorem buildTree_fixedDistLens : buildTree fixedDistLens .dist = .ok (some fixedDistTree) := by decide +kernel

/-- Settles O17: the builder is run on the fixed lengths, and each run of code words is followed to its leaves. -/
theorem fixedCodesAreBuilt : Obligations.FixedCodesAreBuilt := by
  refine ⟨buildTree_fixedLitlenLens, buildTree_fixedDistLens, fun s hlo hhi => ?_,
    fun s hs => fixedLitlenTree_follow_0 (Nat.lt_succ_of_le hs), fun s hlo hhi => ?_, fun s hlo hhi => ?_,
    fun s hs => fixedDistTree_follow (Nat.lt_succ_of_le hs)⟩
  · simpa only [Nat.add_sub_cancel' hlo] using fixedLitlenTree_follow_256 (j := s - 256) (by omega)
  · simpa only [Nat.add_sub_cancel' hlo] using fixedLitlenTree_follow_280 (j := s - 280) (by omega)
  · simpa only [Nat.add_sub_cancel' hlo] using fixedLitlenTree_follow_144 (j := s - 144) (by omega)

end Sys2Proof.Machine
end

section
/-! ReadBits as it is asked for: stream bits by their numbers, the split of a read into two, the read of no bits and the read
that the source cannot fill (R12, R48, R151 to R153, R155, R159). -/

namespace Sys2Proof.Machine

/-! ## Stream bits by their numbers -/

/-- The first of the packed bits is bit 0 (R152). -/
theorem packBits_testBit (bs : List Bool) (j : Nat) : (packBits bs).testBit j = bs[j]?.getD false := by
  induction bs generalizing j with
  | nil => simp [packBits]
  | cons b bs ih =>
    cases j with
    | zero => cases b <;> simp [packBits, Nat.testBit_zero]
    | succ j =>
      have hhalf : packBits (b :: bs) / 2 = packBits bs := by
        have := Bool.toNat_le b
        rw [packBits]
        omega
      rw [Nat.testBit_succ, hhalf, ih, List.getElem?_cons_succ]

theorem bitsLsbFirst_packBits (bs : List Bool) : bitsLsbFirst bs.length (packBits bs) = bs := by
  refine List.ext_getElem (by simp) fun j h₁ h₂ => ?_
  simp [bitsLsbFirst, packBits_testBit, h₂]

theorem byteBits_getElem? {b : Byte} {j : Nat} (hj : j < 8) : (byteBits b)[j]? = some (b.getLsbD j) := by
  simp [byteBits, bitsLsbFirst, hj, BitVec.testBit_toNat]

/-- Bit `q` of bytes in stream order is bit `q mod 8` of byte `floor(q / 8)` (R12). -/
theorem streamBits_getElem?_getD (bytes : List Byte) (q : Nat) :
    (streamBits bytes)[q]?.getD false = (bytes[q / 8]?.getD 0#8).getLsbD (q % 8) := by
  induction bytes generalizing q with
  | nil => simp
  | cons b bytes ih =>
    by_cases hq : q < 8
    · rw [streamBits_cons, List.getElem?_append_left (by simpa using hq), byteBits_getElem? hq, Nat.div_eq_of_lt hq,
        Nat.mod_eq_of_lt hq]
      rfl
    · have hdiv : q / 8 = (q - 8) / 8 + 1 := by omega
      rw [streamBits_cons, List.getElem?_append_right (by simpa using hq), byteBits_length, ih, hdiv, List.getElem?_cons_succ,
        ← Nat.mod_eq_sub_mod (Nat.le_of_not_lt hq)]

theorem Input.Sound.streamPos_nonneg {cap : Nat} {inp : Input} (h : inp.Sound cap) : 0 ≤ inp.streamPos := by
  have := h.delivered
  have := h.cursor
  rw [Input.streamPos]
  omega

/-- The bit ahead at place `j` is the stream bit `j` places behind the stream position (R12, R48). -/
theorem Input.Coherent.ahead_getElem?_getD {cap : Nat} {inp : Input} (hc : inp.Coherent) (hs : inp.Sound cap) (j : Nat) :
    inp.ahead[j]?.getD false = inp.streamBit (inp.streamPos.toNat + j) := by
  obtain ⟨before, hsplit⟩ := hc
  have hbefore : before.length = 8 * inp.origin + inp.streamPos.toNat := by
    have hlen := congrArg List.length hsplit
    have htotal := Input.streamPos_add_ahead hs
    have hpos := hs.streamPos_nonneg
    have hrecv := hs.received
    have hend := hs.sourceEnd
    rw [List.length_append, streamBits_length] at hlen
    rw [Source.rest_length] at htotal
    rw [Input.origin]
    omega
  have hplace : inp.ahead[j]? = (streamBits inp.src.data)[before.length + j]? := by
    rw [← hsplit, List.getElem?_append_right (Nat.le_add_right _ _), Nat.add_sub_cancel_left]
  rw [hplace, streamBits_getElem?_getD, hbefore, Nat.add_assoc, Nat.mul_add_div (by decide), Nat.mul_add_mod]
  rfl

/-! ## The next bits (R151) -/

/-- Settles O5: the loop changes no bit ahead, and the stream position moves on by the bits taken. -/
theorem readBitsTakesNextBits : Obligations.ReadBitsTakesNextBits := by
  intro cap n inp h hn hlen
  have ⟨_, hsound, _⟩ := h
  have hdo := readBits_does h hn
  rw [Parse.field, if_pos hlen] at hdo
  obtain ⟨inp', hr, ha, hl, hready⟩ := hdo.of_value
  have hpos : inp'.streamPos = inp.streamPos + n := by
    have hmoved := hl.streamPos_add hsound
    rw [ha, List.length_drop] at hmoved
    omega
  exact ⟨inp', hr, ha, hready, hpos, hl.data, hl.ending⟩

/-- What a read's value is, and what is left behind it (R151). -/
theorem readBits_value {cap n v : Nat} {inp inp' : Input} (h : inp.Ready cap) (hn : n ≤ 16)
    (hr : readBits cap n inp = .ok v inp') :
    n ≤ inp.ahead.length ∧ v = packBits (inp.ahead.take n) ∧ inp'.ahead = inp.ahead.drop n ∧ inp'.Ready cap := by
  have hlen : n ≤ inp.ahead.length := by
    have := (readBits_ok h hn hr).2
    omega
  obtain ⟨inp₁, hr₁, ha, hready⟩ := readBits_readsField hn inp h hlen
  obtain ⟨rfl, rfl⟩ := InRes.ok.inj (hr.symm.trans hr₁)
  exact ⟨hlen, rfl, ha, hready⟩

/-! ## ReadBits' loop in two parts (R152) -/

/-- The next input byte does not depend on ACC, and leaves it. -/
theorem nextInputByte_withAcc {cap : Nat} {inp inp' : Input} {b : Byte} (acc : AccWord) (accN : Nat)
    (h : nextInputByte cap inp = .ok b inp') :
    nextInputByte cap { inp with acc := acc, accN := accN } = .ok b { inp' with acc := acc, accN := accN } ∧
      inp'.acc = inp.acc ∧ inp'.accN = inp.accN := by
  by_cases hempty : inp.inPos = inp.inFill
  · rcases hreq : srcRequest cap inp.src with ⟨answer, src⟩
    cases answer with
    | data bytes =>
      simp only [nextInputByte, hempty, if_true, refillInput, Input.request, hreq, InRes.andThen_of_ok, takeBuffered] at h ⊢
      obtain ⟨rfl, rfl⟩ := InRes.ok.inj h
      exact ⟨rfl, rfl, rfl⟩
    | endOfData | ioError _ | silent => simp [nextInputByte, hempty, refillInput, Input.request, hreq] at h
  · rw [nextInputByte_buffered cap hempty] at h
    obtain ⟨rfl, rfl⟩ := InRes.ok.inj h
    exact ⟨nextInputByte_buffered cap (inp := { inp with acc := acc, accN := accN }) hempty, rfl, rfl⟩

theorem fetchByte_accN {cap : Nat} {inp inp' : Input} (h : fetchByte cap inp = .ok () inp') : inp'.accN = inp.accN + 8 := by
  obtain ⟨b, inp₁, hnext, hpush⟩ := InRes.andThen_eq_ok.mp h
  obtain ⟨-, rfl⟩ := InRes.ok.inj hpush
  obtain ⟨-, -, haccN⟩ := nextInputByte_withAcc inp.acc inp.accN hnext
  simp only [pushByte, haccN]

/-- A byte shifted into ACC loses no bit at the top, so that it can be shifted back (R151). -/
theorem shiftLeft_shiftRight_byte (b : Byte) {n k : Nat} (hn : n ≤ k) (hk : k ≤ 56) :
    (b.setWidth 64 <<< k) >>> n = (b.setWidth 64 : AccWord) <<< (k - n) := by
  ext i hi
  have hplace : n + i - k = i - (k - n) := by omega
  have hbelow : n + i < k ↔ i < k - n := by omega
  by_cases hbeyond : n + i < 64
  · simp [hplace, hbelow, hbeyond]
  · simp [hbeyond, BitVec.getLsbD_of_ge b (i - (k - n)) (by omega)]

theorem pushByte_dropBits (b : Byte) {inp : Input} {n : Nat} (hn : n ≤ inp.accN) (hroom : inp.accN ≤ 56) :
    pushByte b (inp.dropBits n) = (pushByte b inp).dropBits n := by
  have haccN : inp.accN - n + 8 = inp.accN + 8 - n := by omega
  simp only [pushByte, Input.dropBits, BitVec.ushiftRight_or_distrib, shiftLeft_shiftRight_byte b hn hroom, haccN]

/-- Whether bits are taken from ACC before or after a byte enters it makes no difference. -/
theorem fetchByte_dropBits {cap n : Nat} {inp inp' : Input} (hn : n ≤ inp.accN) (hroom : inp.accN ≤ 56)
    (h : fetchByte cap inp = .ok () inp') : fetchByte cap (inp.dropBits n) = .ok () (inp'.dropBits n) := by
  obtain ⟨b, inp₁, hnext, hpush⟩ := InRes.andThen_eq_ok.mp h
  obtain ⟨-, rfl⟩ := InRes.ok.inj hpush
  obtain ⟨hnext', hacc, haccN⟩ := nextInputByte_withAcc (inp.acc >>> n) (inp.accN - n) hnext
  have hdropped : nextInputByte cap (inp.dropBits n) = .ok b (inp₁.dropBits n) := by
    rw [Input.dropBits, Input.dropBits, hacc, haccN]
    exact hnext'
  rw [fetchByte, hdropped, InRes.andThen_of_ok, pushByte_dropBits b (by omega) (by omega)]

theorem fillAcc_dropBits {cap n m fuel : Nat} {inp inp' : Input} (hn : n ≤ inp.accN) (hsum : n + m ≤ 57)
    (h : fillAcc cap (n + m) fuel inp = .ok () inp') : fillAcc cap m fuel (inp.dropBits n) = .ok () (inp'.dropBits n) := by
  induction fuel generalizing inp with
  | zero =>
    obtain ⟨-, rfl⟩ := InRes.ok.inj h
    rfl
  | succ fuel ih =>
    by_cases hless : inp.accN < n + m
    · rw [fillAcc_succ hless] at h
      obtain ⟨_, inp₁, hfetch, hfill⟩ := InRes.andThen_eq_ok.mp h
      have haccN := fetchByte_accN hfetch
      rw [fillAcc_succ (by simp only [Input.dropBits]; omega), fetchByte_dropBits hn (by omega) hfetch, InRes.andThen_of_ok]
      exact ih (by omega) hfill
    · rw [fillAcc_enough cap (by omega)] at h
      obtain ⟨-, rfl⟩ := InRes.ok.inj h
      exact fillAcc_enough cap (by simp only [Input.dropBits]; omega)

/-- How much fuel is given makes no difference where it lets the loop end with `n` bits (R151). -/
theorem fillAcc_fuel {cap n fuel fuel' : Nat} {inp inp' : Input} (h : fillAcc cap n fuel inp = .ok () inp')
    (hn : n ≤ inp'.accN) (hfuel : n ≤ inp.accN + 8 * fuel') : fillAcc cap n fuel' inp = .ok () inp' := by
  induction fuel generalizing fuel' inp with
  | zero =>
    obtain ⟨-, rfl⟩ := InRes.ok.inj h
    exact fillAcc_enough cap hn
  | succ fuel ih =>
    by_cases hless : inp.accN < n
    · rw [fillAcc_succ hless] at h
      obtain ⟨_, inp₁, hfetch, hfill⟩ := InRes.andThen_eq_ok.mp h
      have haccN := fetchByte_accN hfetch
      cases fuel' with
      | zero => omega
      | succ fuel' =>
        rw [fillAcc_succ hless, hfetch, InRes.andThen_of_ok]
        exact ih hfill (by omega)
    · rw [fillAcc_enough cap (by omega)] at h ⊢
      exact h

/-- On the way to `n + m` bits ACC first comes to hold `n`. -/
theorem fillAcc_first {cap n m fuel : Nat} {inp inp' : Input} (h : fillAcc cap (n + m) fuel inp = .ok () inp')
    (hn : n + m ≤ inp'.accN) :
    ∃ inp₁ fuel₁, fillAcc cap n fuel inp = .ok () inp₁ ∧ n ≤ inp₁.accN ∧ fillAcc cap (n + m) fuel₁ inp₁ = .ok () inp' := by
  induction fuel generalizing inp with
  | zero =>
    obtain ⟨-, rfl⟩ := InRes.ok.inj h
    exact ⟨inp, 0, rfl, by omega, rfl⟩
  | succ fuel ih =>
    by_cases hless : inp.accN < n
    · rw [fillAcc_succ (by omega)] at h
      obtain ⟨_, inp₂, hfetch, hfill⟩ := InRes.andThen_eq_ok.mp h
      obtain ⟨inp₁, fuel₁, hfirst, henough, hsecond⟩ := ih hfill
      exact ⟨inp₁, fuel₁, by rw [fillAcc_succ hless, hfetch, InRes.andThen_of_ok, hfirst], henough, hsecond⟩
    · exact ⟨inp, fuel + 1, fillAcc_enough cap (by omega), by omega, h⟩

theorem Input.dropBits_dropBits (inp : Input) (n m : Nat) : (inp.dropBits n).dropBits m = inp.dropBits (n + m) := by
  simp only [Input.dropBits, BitVec.shiftRight_add, Nat.sub_sub]

/-- A read of `n + m` bits leaves what the two reads leave (R152). -/
theorem readBits_add {cap n m v : Nat} {inp inp' : Input} (h : inp.Ready cap) (hsum : n + m ≤ 16)
    (hr : readBits cap (n + m) inp = .ok v inp') :
    ∃ a b inp₁, readBits cap n inp = .ok a inp₁ ∧ readBits cap m inp₁ = .ok b inp' := by
  rcases fillAcc_cases (n := n + m) (fuel := n + m) h (by omega) (by omega) with
    ⟨inp₂, k, hfill, -, -, -, haccN, -⟩ | ⟨-, inp₂, hfill, -⟩
  · rw [readBits, hfill, InRes.andThen_of_ok] at hr
    obtain ⟨-, rfl⟩ := InRes.ok.inj hr
    obtain ⟨inp₁, fuel₁, hfirst, hn, hsecond⟩ := fillAcc_first hfill haccN
    have hfill₁ : fillAcc cap n n inp = .ok () inp₁ := fillAcc_fuel hfirst hn (by omega)
    have hfill₂ : fillAcc cap m m (inp₁.dropBits n) = .ok () (inp₂.dropBits n) :=
      fillAcc_dropBits hn (by omega) (fillAcc_fuel hsecond haccN (by omega))
    refine ⟨_, (inp₂.dropBits n).acc.toNat % 2 ^ m, inp₁.dropBits n, by rw [readBits, hfill₁]; rfl, ?_⟩
    rw [readBits, hfill₂, InRes.andThen_of_ok]
    exact congrArg (InRes.ok _) (inp₂.dropBits_dropBits n m)
  · rw [readBits, hfill, InRes.ended_andThen] at hr
    exact absurd hr (InRes.ended_ne_ok _ _ _ _)

theorem readBits_zero (cap : Nat) (inp : Input) : readBits cap 0 inp = .ok 0 inp := by
  rw [readBits_enough cap (Nat.zero_le _), pow_zero, Nat.mod_one, BitVec.ushiftRight_zero, Nat.sub_zero]

/-- Settles O6: the value is that of the bits ahead, which have their numbers in the stream, and packs those of the two reads. -/
theorem readBitsOrderAndSplit : Obligations.ReadBitsOrderAndSplit := by
  refine ⟨?order, ?split, readBits_zero⟩
  case order =>
    intro cap n v inp inp' h hc hn hr
    have ⟨_, hsound, _⟩ := h
    obtain ⟨-, hv, -⟩ := readBits_value h hn hr
    refine ⟨readBits_lt hr, fun j hj => ?_⟩
    rw [hv, packBits_testBit, List.getElem?_take_of_lt hj, hc.ahead_getElem?_getD hsound]
  case split =>
    intro cap n m v inp inp' h hsum hr
    obtain ⟨a, b, inp₁, hr₁, hr₂⟩ := readBits_add h hsum hr
    obtain ⟨hlen, hv, -⟩ := readBits_value h hsum hr
    obtain ⟨-, ha, hahead, hready⟩ := readBits_value h (by omega) hr₁
    obtain ⟨-, hb, -⟩ := readBits_value hready (by omega) hr₂
    have hpacked : v = a + 2 ^ n * b := by
      rw [hv, List.take_add, packBits_append, List.length_take_of_le (by omega), ha, hb, hahead]
    have hlt : a < 2 ^ n := readBits_lt hr₁
    have hlow : v % 2 ^ n = a := by rw [hpacked, Nat.add_mul_mod_self_left, Nat.mod_eq_of_lt hlt]
    have hhigh : v / 2 ^ n = b := by
      rw [hpacked, Nat.add_mul_div_left _ _ (Nat.two_pow_pos n), Nat.div_eq_of_lt hlt, Nat.zero_add]
    exact ⟨inp₁, by rw [hlow, hr₁], by rw [hhigh, hr₂]⟩

/-- Settles O7: the parser of the field finds too few bits ahead. -/
theorem missingBitsEndAsTheSourceEnds : Obligations.MissingBitsEndAsTheSourceEnds := by
  intro cap n inp h hn hlen
  have hdo := readBits_does h hn
  rw [Parse.field, if_neg (Nat.not_le_of_lt hlen)] at hdo
  obtain ⟨inp', hr, -⟩ := hdo.of_short
  refine ⟨inp', hr.trans ?_⟩
  cases inp.src.ending <;> rfl

end Sys2Proof.Machine
end

section
/-! Alignment, and the places a stored byte comes from (R62, R156 to R158). -/

namespace Sys2Proof.Machine

/-! ## Alignment (R156) -/

theorem Input.Sound.dropBits {cap : Nat} {inp : Input} (h : inp.Sound cap) {n : Nat} (hn : n ≤ inp.accN) :
    (inp.dropBits n).Sound cap where
  accBits := (Nat.sub_le _ _).trans h.accBits
  accClear := shiftRight_toNat_lt h.accClear hn
  cursor := h.cursor
  capacity := h.capacity
  delivered := by
    have := h.delivered
    simp only [Input.dropBits]
    omega
  received := h.received
  sourceEnd := h.sourceEnd
  directLast hne := by
    obtain ⟨hacc, hempty⟩ := h.directLast hne
    exact ⟨by simp [Input.dropBits, hacc], hempty⟩

/-- Settles O10: alignment takes `ACC_N mod 8` bits from ACC. -/
theorem alignDropsPartialByte : Obligations.AlignDropsPartialByte := by
  intro cap inp h
  have hle : inp.accN % 8 ≤ inp.accN := Nat.mod_le _ _
  refine ⟨Input.dropBits_ahead hle, ?_, h.dropBits hle, rfl⟩
  simp only [alignToByte]
  omega

/-! ## The places of a stored byte (R157, R158) -/

/-- A byte that a read has taken is the next 8 bits ahead. -/
theorem InRes.Does.of_byte {cap : Nat} {Q : Input → Prop} {inp : Input} {r : InRes Byte}
    (h : r.Does cap Q inp (.byte inp.ahead)) (hlen : 8 ≤ inp.ahead.length) :
    ∃ b inp', r = .ok b inp' ∧ byteBits b = inp.ahead.take 8 ∧ inp'.ahead = inp.ahead.drop 8 ∧ Q inp' := by
  rw [Parse.byte, if_pos hlen] at h
  obtain ⟨inp', hr, ha, -, hQ⟩ := h.of_value
  have htake : (inp.ahead.take 8).length = 8 := List.length_take_of_le hlen
  refine ⟨_, inp', hr, ?_, ha, hQ⟩
  have hbits := bitsLsbFirst_packBits (inp.ahead.take 8)
  rw [htake] at hbits
  rw [byteBits, BitVec.toNat_ofNat, bitsLsbFirst_mod, hbits]

/-- A direct read makes one request, and its answer never enters INBUF (R158). -/
theorem directRead_frame {m : Nat} {inp inp' : Input} {b : Byte} (h : directRead m inp = .ok b inp') :
    inp'.inbuf = inp.inbuf ∧ inp'.inFill = inp.inFill ∧ inp'.src.txns = inp.src.txns ++ [.request m] := by
  have htxns := (srcRequest_keeps m inp.src).2.2
  unfold directRead Input.request at h
  rcases hreq : srcRequest m inp.src with ⟨answer, src⟩
  rw [hreq] at h htxns
  cases answer with
  | data bytes =>
    cases bytes with
    | nil => simp at h
    | cons b' bytes =>
      obtain ⟨-, rfl⟩ := InRes.ok.inj h
      exact ⟨rfl, rfl, htxns⟩
  | endOfData | ioError _ | silent => simp at h

/-- A byte that ACC or INBUF holds is read without the source (R157). -/
theorem readAlignedByte_frame {cap : Nat} {inp inp' : Input} {b : Byte} (hheld : 8 ≤ inp.accN ∨ inp.inPos ≠ inp.inFill)
    (h : readAlignedByte cap inp = .ok b inp') :
    inp'.inbuf = inp.inbuf ∧ inp'.inFill = inp.inFill ∧ inp'.src = inp.src := by
  unfold readAlignedByte at h
  split at h
  · obtain ⟨-, rfl⟩ := InRes.ok.inj h
    exact ⟨rfl, rfl, rfl⟩
  · rename_i hacc
    rw [nextInputByte_buffered cap (hheld.resolve_left hacc)] at h
    obtain ⟨-, rfl⟩ := InRes.ok.inj h
    exact ⟨rfl, rfl, rfl⟩

/-- Settles O11: the byte is one of a direct answer's, or the direct read's, or one that ACC or INBUF holds. -/
theorem storedByteComesFromTheNextPlace : Obligations.StoredByteComesFromTheNextPlace := by
  intro cap m inp hcap hm hs hf halign hlen
  cases hd : inp.direct with
  | cons b bytes =>
    have hahead := Input.ahead_of_directByte (hs.directLast (by simp [hd])) hd
    refine ⟨b, { inp with direct := bytes }, by simp only [readStoredByte, hd], ?_, ?_, rfl, rfl, by simp⟩
    · rw [hahead, List.take_left' (byteBits_length b)]
    · rw [hahead, List.drop_left' (byteBits_length b)]
  | nil =>
    have hready : inp.StoredReady cap m := ⟨hcap, hs, hf, halign, by simp [hd]⟩
    by_cases hempty : inp.accN = 0 ∧ inp.inPos = inp.inFill
    · obtain ⟨b, inp', hr, hbits, hahead, hleft⟩ := (directRead_does hready hm hd hempty).of_byte hlen
      obtain ⟨hinbuf, hfill, htxns⟩ := directRead_frame hr
      refine ⟨b, inp', ?_, hbits, hahead, hinbuf, hfill, ?_⟩
      · simp only [readStoredByte, hd, if_pos hempty, hr]
      · rw [if_pos ⟨hempty.1, hempty.2, rfl⟩]
        exact ⟨htxns, hleft.fits⟩
    · obtain ⟨b, inp', hr, hbits, hahead, -⟩ := (readAlignedByte_does hready hm hd hempty).of_byte hlen
      obtain ⟨hinbuf, hfill, hsrc⟩ := readAlignedByte_frame (by omega) hr
      refine ⟨b, inp', ?_, hbits, hahead, hinbuf, hfill, ?_⟩
      · simp only [readStoredByte, hd, if_neg hempty, hr]
      · rwa [if_neg fun h => hempty ⟨h.1, h.2.1⟩]

end Sys2Proof.Machine
end

section
/-! DecodeSym's walk, bit by bit: along a code word it comes to the word's symbol, and in a full tree it ends at a symbol of the
alphabet or where the input ends (R182, R184, R190, R194). -/

namespace Sys2Proof.Machine

/-! ## One bit of the walk -/

/-- DecodeSym's move from the slot a bit has led to (R190). -/
def walkFrom (cap : Nat) (t : Tree) (fuel : Nat) (slot : Option Slot) (inp : Input) : InRes Nat :=
  match slot with
  | some (.leaf s) => .ok s inp
  | some .dummy => .ok dummySym inp
  | some (.node k) => walkTree cap t fuel k inp
  | some .opn | none => .stop .malformedTree

/-- The walk reads a bit and goes on from the slot it leads to (R182, R190). -/
theorem walkTree_succ (cap : Nat) (t : Tree) (fuel k : Nat) (inp : Input) :
    walkTree cap t (fuel + 1) k inp =
      (readBits cap 1 inp).andThen fun b inp' => walkFrom cap t fuel (t.child k (b == 1)) inp' := by
  rw [walkTree]
  congr 1
  funext b inp'
  rcases t.child k (b == 1) with _ | _ | _ | _ | _ <;> rfl

/-- The next bit ahead is read as its number (R151). -/
theorem readBits_one {cap : Nat} {inp : Input} {b : Bool} {rest : List Bool} (h : inp.Ready cap) (ha : inp.ahead = b :: rest) :
    ∃ inp', readBits cap 1 inp = .ok b.toNat inp' ∧ inp'.ahead = rest ∧ inp'.Ready cap := by
  obtain ⟨inp', hr, hahead, hready⟩ := readBits_readsField (n := 1) (by decide) inp h (by simp [ha])
  exact ⟨inp', by simpa [ha, packBits] using hr, by simpa [ha] using hahead, hready⟩

theorem toNat_beq_one (b : Bool) : (b.toNat == 1) = b := by cases b <;> rfl

/-! ## Along a code word -/

/-- A slot in which a walk ends, with the symbol it decodes to (R186, R190). -/
def Slot.Names (slot : Slot) (s : Nat) : Prop := slot = .leaf s ∨ slot = .dummy ∧ s = dummySym

theorem walkFrom_of_names {cap fuel s : Nat} {t : Tree} {slot : Slot} (h : slot.Names s) (inp : Input) :
    walkFrom cap t fuel (some slot) inp = .ok s inp := by
  rcases h with rfl | ⟨rfl, rfl⟩ <;> rfl

/-- The walk follows the bits of a code word to its symbol. -/
theorem walkTree_of_follow {cap fuel k s : Nat} {t : Tree} {w : List Bool} {slot : Slot} {inp : Input} (h : inp.Ready cap)
    (hlen : w.length ≤ fuel) (hw : t.follow k w = some slot) (hs : slot.Names s) (ha : w <+: inp.ahead) :
    ∃ inp', walkTree cap t fuel k inp = .ok s inp' ∧ inp'.ahead = inp.ahead.drop w.length := by
  induction w generalizing fuel k inp with
  | nil =>
    obtain rfl : .node k = slot := by simpa [Tree.follow] using hw
    simp [Slot.Names] at hs
  | cons b w ih =>
    obtain ⟨rest, ha⟩ := ha
    obtain ⟨inp₁, hr, hahead, hready⟩ := readBits_one h ha.symm
    obtain ⟨fuel, rfl⟩ : ∃ n, fuel = n + 1 := ⟨fuel - 1, by simp at hlen; omega⟩
    have hdrop : inp.ahead.drop (b :: w).length = inp₁.ahead.drop w.length := by
      rw [← ha, hahead]
      rfl
    simp only [hdrop, walkTree_succ, hr, InRes.andThen_of_ok, toNat_beq_one]
    cases hc : t.child k b with
    | none => simp [Tree.follow, hc] at hw
    | some slot₁ =>
      cases slot₁ with
      | node k₁ =>
        rw [Tree.follow, hc] at hw
        exact ih hready (by simpa using hlen) hw ⟨rest, hahead.symm⟩
      | opn | leaf s₁ | dummy =>
        obtain ⟨rfl, rfl⟩ : w = [] ∧ _ = slot := by simpa [Tree.follow, hc] using hw
        exact ⟨inp₁, walkFrom_of_names hs inp₁, rfl⟩

/-- Settles O18: the walk follows the word, and as a reader of the stream keeps the input layer ready. -/
theorem decodeSymFollowsCodeWord : Obligations.DecodeSymFollowsCodeWord := by
  intro cap t inp w slot s h hlen hw hs ha
  obtain ⟨inp', hr, hahead⟩ := walkTree_of_follow h hlen hw hs ha
  obtain ⟨hl, hready, -⟩ := (decodeSym_reader cap t).ok h hr
  exact ⟨inp', hr, hahead, hready, hl.ending⟩

/-- A symbol's value is decoded with the code its format names (R223, R250, R255). -/
theorem fetchValue_eq_decodeSym {s : State} {f : Format} {t : Tree}
    (ht : f = .clenSymbol ∧ t = s.dyn.clt ∨ f = .litlenSymbol ∧ (∃ c, s.ll = some c ∧ c.tree = t) ∨
      f = .distSymbol ∧ ∃ c, s.dist = .code c ∧ c.tree = t) : fetchValue f s = decodeSym s.params.inCap t s.input := by
  rcases ht with ⟨rfl, rfl⟩ | ⟨rfl, c, hc, rfl⟩ | ⟨rfl, c, hc, rfl⟩
  · rfl
  · simp only [fetchValue, hc]
  · simp only [fetchValue, hc]

/-- Settles O47: the step runs the value it fetches, which is that of the code word ahead. -/
theorem symbolStepReadsCodeWord : Obligations.SymbolStepReadsCodeWord := by
  intro s f t w slot sym hinv hf ht hw hs hlen ha
  have hin := expectedIn_of_expectedFormat hf
  have hready : s.input.Ready s.params.inCap := by
    refine hinv.ready_of_decodes (hinv.decodes_of_expected hin) fun hstored => ?_
    obtain rfl := (storedByte_of_expected hin).mpr hstored
    simp at ht
  obtain ⟨inp', hr, hahead, -⟩ := decodeSymFollowsCodeWord _ t s.input w slot sym hready hlen hw hs ha
  exact ⟨inp', by rw [step_of_expectedFormat hf, fetchValue_eq_decodeSym ht, hr, onInput_of_ok], hahead⟩

/-! ## In a full tree -/

/-- Every bit leads on in a full tree (R184). -/
theorem Tree.fullFrom_child {t : Tree} {ok : Slot → Bool} {fuel k : Nat} (h : t.fullFrom ok (fuel + 1) k = true) (b : Bool) :
    ∃ slot, t.child k b = some slot ∧ t.SlotFull ok fuel slot := by
  rw [Tree.fullFrom, List.all_eq_true] at h
  have hb := h b (by cases b <;> simp)
  cases hc : t.child k b with
  | none => simp [hc] at hb
  | some slot =>
    refine ⟨slot, rfl, ?_⟩
    rw [hc] at hb
    cases slot with
    | opn => simp at hb
    | leaf s | dummy | node k' => exact hb

/-- A read that does not stop the model, and whose value satisfies `p` where it ends with one. -/
def InRes.Yields {α : Type} (p : α → Prop) : InRes α → Prop
  | .ok a _ => p a
  | .fatal _ _ _ | .wait _ => True
  | .stop _ => False

theorem InRes.Yields.andThen {α β : Type} {p : α → Prop} {q : β → Prop} {r : InRes α} {k : α → Input → InRes β}
    (h : r.Yields p) (hk : ∀ a inp, p a → (k a inp).Yields q) : (r.andThen k).Yields q := by
  cases r with
  | ok a inp => exact hk a inp h
  | fatal c i inp => trivial
  | wait inp => trivial
  | stop f => exact h

theorem readBits_yields (cap n : Nat) (inp : Input) : (readBits cap n inp).Yields (· < 2 ^ n) := by
  cases hr : readBits cap n inp with
  | ok v inp' => exact readBits_lt hr
  | fatal c i inp' => trivial
  | wait inp' => trivial
  | stop f => exact readBits_ne_stop cap n inp f hr

/-- A walk in a full tree ends at a symbol, or where the input ends (R184, R194). -/
theorem walkTree_yields {cap fuel k : Nat} {t : Tree} {ok : Slot → Bool} (h : t.fullFrom ok fuel k = true) (inp : Input) :
    (walkTree cap t fuel k inp).Yields fun s => ∃ slot : Slot, slot.Names s ∧ ok slot = true := by
  induction fuel generalizing k inp with
  | zero => simp [Tree.fullFrom] at h
  | succ fuel ih =>
    rw [walkTree_succ]
    refine (readBits_yields cap 1 inp).andThen fun b inp' _ => ?_
    obtain ⟨slot, hc, hfull⟩ := Tree.fullFrom_child h (b == 1)
    rw [hc]
    cases slot with
    | opn => exact absurd hfull id
    | node k' => exact ih hfull inp'
    | leaf s => exact ⟨_, .inl rfl, hfull⟩
    | dummy => exact ⟨_, .inr ⟨rfl, rfl⟩, hfull⟩

/-- DecodeSym with a full tree of a kind (R184, R194). -/
theorem decodeSym_yields {t : Tree} {kind : CodeKind} (h : t.full kind = true) (cap : Nat) (inp : Input) :
    (decodeSym cap t inp).Yields fun s => ∃ slot : Slot, slot.Names s ∧ kind.leafOk slot = true :=
  walkTree_yields h inp

end Sys2Proof.Machine
end

section
/-! Under the invariant nothing stops CORE (R194, R340): no read stops, every value read is an element of its format, and every
element's meaning has a next state. -/

namespace Sys2Proof.Machine

/-! ## Meanings -/

/-- An element behind a read that does not stop goes on. -/
theorem InRes.Yields.onInput {α : Type} {p : α → Prop} {s : State} {r : InRes α} {k : α → State → Result} (h : r.Yields p)
    (hk : ∀ a inp, p a → ∃ t, k a { s with input := inp } = .next t) : ∃ t, onInput s r k = .next t := by
  cases r with
  | ok a inp => exact hk a inp h
  | fatal c i inp => exact ⟨_, rfl⟩
  | wait inp => exact ⟨_, rfl⟩
  | stop f => exact absurd h id

theorem readOperand_yields (cap : Nat) (o : Operand) (inp : Input) : (readOperand cap o inp).Yields fun _ => True :=
  (readBits_yields cap o.extra inp).andThen fun _ _ _ => trivial

theorem readClLengths_yields (cap : Nat) (order cl : List Nat) (inp : Input) :
    (readClLengths cap order cl inp).Yields fun _ => True := by
  induction order generalizing cl inp with
  | nil => trivial
  | cons s order ih => exact (readBits_yields cap 3 inp).andThen fun v inp' _ => ih _ inp'

section
variable (s : State)

theorem passRead_next (count : Nat) : ∃ t, passRead count s = .next t := by
  rcases passRead_cases count s with ⟨-, h⟩ | ⟨-, -, h⟩ | ⟨-, -, a, inp, -, h⟩
  · exact ⟨_, h⟩
  · exact ⟨_, h⟩
  · rw [h]
    cases a <;> exact ⟨_, rfl⟩

theorem execCmdRead_next (count : Nat) : ∃ t, execCmdRead count s = .next t := by
  unfold execCmdRead
  split
  case h_4 => exact passRead_next s count
  case h_5 | h_6 | h_7 => split <;> exact ⟨_, rfl⟩
  all_goals exact ⟨_, rfl⟩

theorem execCmdDetach_next : ∃ t, execCmdDetach s = .next t := by
  unfold execCmdDetach
  split
  case h_1 | h_2 => exact ⟨_, rfl⟩
  all_goals split <;> exact ⟨_, rfl⟩

theorem execCmdAttach_next : ∃ t, execCmdAttach s = .next t := by
  unfold execCmdAttach
  split <;> exact ⟨_, rfl⟩

theorem execCmdClose_next : ∃ t, execCmdClose s = .next t := by
  unfold execCmdClose
  split <;> exact ⟨_, rfl⟩

/-- An element that reads an operand goes on. -/
theorem operand_next (o : Operand) {k : Nat → State → Result} (hk : ∀ v t, ∃ u, k v t = .next u) :
    ∃ t, onInput s (readOperand s.params.inCap o s.input) k = .next t :=
  (readOperand_yields s.params.inCap o s.input).onInput fun v _ _ => hk v _

theorem lengthCode_next (o : Operand) : ∃ t, lengthCode o s = .next t :=
  operand_next s o fun _ _ => by split <;> exact ⟨_, rfl⟩

theorem distanceCode_next (o : Operand) : ∃ t, distanceCode o s = .next t := operand_next s o fun _ _ => ⟨_, rfl⟩

theorem execDynamicHeader_next (hlit hdist : BitVec 5) (hclen : BitVec 4) : ∃ t, execDynamicHeader hlit hdist hclen s = .next t :=
  (readClLengths_yields s.params.inCap _ _ s.input).onInput fun _ _ _ => by split <;> exact ⟨_, rfl⟩

theorem execClRepeatPrev_next : ∃ t, execClRepeatPrev s = .next t := by
  unfold execClRepeatPrev
  split
  · exact ⟨_, rfl⟩
  · exact operand_next s _ fun _ _ => ⟨_, rfl⟩

/-- Every element of a format has a next state, be it that of a fatal error (R340, R345). -/
theorem exec_next {f : Format} {v : Nat} {i : Instr} (h : decode f v = .ok i) : ∃ t, exec i s = .next t := by
  cases f with
  | blockHeader =>
    obtain ⟨b, rfl | rfl | rfl | rfl⟩ := decode_blockHeader h <;> exact ⟨_, rfl⟩
  | storedHeader =>
    obtain ⟨len, nlen, rfl⟩ := decode_storedHeader h
    simp only [exec, execStoredHeader]
    split <;> exact ⟨_, rfl⟩
  | storedByte =>
    obtain ⟨b, rfl⟩ := decode_storedByte h
    exact ⟨_, rfl⟩
  | dynamicHeader =>
    obtain ⟨hlit, hdist, hclen, rfl⟩ := decode_dynamicHeader h
    exact execDynamicHeader_next s hlit hdist hclen
  | clenSymbol =>
    rcases decode_clenSymbol h with ⟨len, rfl⟩ | rfl | rfl | rfl
    · exact ⟨_, rfl⟩
    · exact execClRepeatPrev_next s
    · exact operand_next s zeroShortOperand fun _ _ => ⟨_, rfl⟩
    · exact operand_next s zeroLongOperand fun _ _ => ⟨_, rfl⟩
  | litlenSymbol =>
    rcases decode_litlenSymbol h with ⟨b, rfl⟩ | rfl | ⟨sym, rfl⟩ | ⟨base, extra, hrow⟩
    · exact ⟨_, rfl⟩
    · exact ⟨_, rfl⟩
    · exact ⟨_, rfl⟩
    · rw [exec_of_mem_lengthRows hrow]
      exact lengthCode_next s _
  | distSymbol =>
    rcases decode_distSymbol h with ⟨sym, rfl⟩ | ⟨base, extra, hrow⟩
    · exact ⟨_, rfl⟩
    · rw [exec_of_mem_distanceRows hrow]
      exact distanceCode_next s _
  | command =>
    rcases decode_command h with ⟨count, -, rfl⟩ | rfl | rfl | rfl
    · exact execCmdRead_next s count
    · exact execCmdDetach_next s
    · exact execCmdAttach_next s
    · exact execCmdClose_next s

/-- A value of a format's range is run. -/
theorem runValue_next_of_lt {f : Format} {v : Nat} (h : v < f.values) : ∃ t, runValue f v s = .next t := by
  cases hd : decode f v with
  | error e => exact absurd (decode_error_iff.mp ⟨e, hd⟩) (Nat.not_le_of_lt h)
  | ok i =>
    obtain ⟨t, ht⟩ := exec_next s hd
    exact ⟨settle t, by rw [runValue_of_decode hd, ht]; rfl⟩

end

/-! ## Values -/

section
variable (cap : Nat) (inp : Input)

theorem readBlockHeader_yields : (readBlockHeader cap inp).Yields (· < Format.blockHeader.values) :=
  (readBits_yields cap 1 inp).andThen fun bfinal inp₁ h₁ => (readBits_yields cap 2 inp₁).andThen fun btype inp₂ h₂ => by
    simp only [InRes.Yields, Format.values, Format.width] at *
    omega

theorem readStoredHeader_yields : (readStoredHeader cap inp).Yields (· < Format.storedHeader.values) :=
  (readBits_yields cap 16 inp).andThen fun len inp₁ h₁ => (readBits_yields cap 16 inp₁).andThen fun nlen inp₂ h₂ => by
    simp only [InRes.Yields, Format.values, Format.width] at *
    omega

theorem readDynamicHeader_yields : (readDynamicHeader cap inp).Yields (· < Format.dynamicHeader.values) :=
  (readBits_yields cap 5 inp).andThen fun hlit inp₁ h₁ => (readBits_yields cap 5 inp₁).andThen fun hdist inp₂ h₂ =>
    (readBits_yields cap 4 inp₂).andThen fun hclen inp₃ h₃ => by
      simp only [InRes.Yields, Format.values, Format.width] at *
      omega

theorem nextInputByte_yields : (nextInputByte cap inp).Yields fun _ => True := by
  cases hr : nextInputByte cap inp with
  | stop f => exact nextInputByte_ne_stop cap inp f hr
  | ok b inp' | fatal c i inp' | wait inp' => trivial

theorem directRead_yields (m : Nat) : (directRead m inp).Yields fun _ => True := by
  unfold directRead
  split <;> trivial

theorem readStoredByte_yields (m : Nat) : (readStoredByte cap m inp).Yields fun _ => True := by
  unfold readStoredByte readAlignedByte
  split
  · trivial
  · split
    · exact directRead_yields inp m
    · split
      · trivial
      · exact nextInputByte_yields cap inp

end

/-- The format of a kind's symbols (R124). -/
def CodeKind.format : CodeKind → Format
  | .clen => .clenSymbol
  | .litlen => .litlenSymbol
  | .dist => .distSymbol

/-- The symbols of a kind's alphabet, DUMMY among the distance symbols, are values of its format (R107 to R109, R342). -/
theorem Slot.Names.lt_values {kind : CodeKind} {slot : Slot} {sym : Nat} (h : slot.Names sym) (hok : kind.leafOk slot = true) :
    sym < kind.format.values := by
  rcases h with rfl | ⟨rfl, rfl⟩
  · have hsym : sym < kind.alphabet := of_decide_eq_true hok
    cases kind <;> simp only [CodeKind.alphabet, CodeKind.format, Format.values] at hsym ⊢ <;> omega
  · obtain rfl : kind = .dist := by simpa [CodeKind.leafOk] using hok
    decide

theorem InRes.Yields.mono {α : Type} {p q : α → Prop} {r : InRes α} (h : r.Yields p) (hpq : ∀ a, p a → q a) : r.Yields q := by
  cases r with
  | ok a inp => exact hpq a h
  | fatal c i inp | wait inp | stop f => exact h

/-- A symbol decoded with a full tree is a value of its format (R184, R194). -/
theorem decodeSym_yields_values {kind : CodeKind} {t : Tree} (h : t.full kind = true) (cap : Nat) (inp : Input) :
    (decodeSym cap t inp).Yields (· < kind.format.values) :=
  (decodeSym_yields h cap inp).mono fun _ ⟨_, hs, hok⟩ => hs.lt_values hok

/-! ## The step -/

section
variable {s : State}

/-- The expected symbol's code is there and its tree is full (R41, R184). -/
theorem Inv.symbolCode (h : Inv s) {kind : CodeKind} (hin : ExpectedIn s kind.format) :
    ∃ t : Tree, t.full kind = true ∧ fetchValue kind.format s = decodeSym s.params.inCap t s.input := by
  cases kind with
  | clen => exact ⟨s.dyn.clt, (h.phase.inSequence hin).1, rfl⟩
  | litlen =>
    obtain ⟨⟨c, hc, hbuilt, -⟩, -⟩ := (State.codesOk_of_huff hin.2).mp h.codes
    exact ⟨c.tree, hbuilt, fetchValue_eq_decodeSym (.inr (.inl ⟨rfl, c, hc, rfl⟩))⟩
  | dist =>
    obtain ⟨hmode, -, hcode, -⟩ := h.phase.inPair hin
    obtain ⟨-, hdist⟩ := (State.codesOk_of_huff hmode).mp h.codes
    obtain ⟨c, hc, hbuilt, -⟩ := hdist.resolve_left hcode
    exact ⟨c.tree, hbuilt, fetchValue_eq_decodeSym (.inr (.inr ⟨rfl, c, hc, rfl⟩))⟩

/-- The value read for the expected element is a value of its format. -/
theorem fetchValue_yields (h : Inv s) {f : Format} (hin : ExpectedIn s f) : (fetchValue f s).Yields (· < f.values) := by
  have hsymbol : ∀ kind : CodeKind, ExpectedIn s kind.format → (fetchValue kind.format s).Yields (· < kind.format.values) := by
    intro kind hin
    obtain ⟨t, hfull, hfetch⟩ := h.symbolCode hin
    rw [hfetch]
    exact decodeSym_yields_values hfull _ _
  cases f with
  | blockHeader => exact readBlockHeader_yields _ _
  | storedHeader => exact readStoredHeader_yields _ _
  | storedByte => exact (readStoredByte_yields _ _ _).andThen fun b _ _ => b.isLt
  | dynamicHeader => exact readDynamicHeader_yields _ _
  | clenSymbol => exact hsymbol .clen hin
  | litlenSymbol => exact hsymbol .litlen hin
  | distSymbol => exact hsymbol .dist hin
  | command => exact absurd hin id

end

/-- A command word is a value of its format (R130). -/
theorem CmdWord.value_lt (w : CmdWord) : w.value < Format.command.values := by
  have hcode := w.code.isLt
  have hcount := w.count.isLt
  simp only [CmdWord.value, Format.values, Format.width]
  omega

/-- Settles O50: a step runs a value of the format it expects, or does nothing. -/
theorem stepNeverStops : Obligations.StepNeverStops := by
  intro s h
  by_cases hphase : s.phase = .command
  · cases hcmds : s.cmds with
    | nil => exact ⟨s, step_of_no_command hphase hcmds⟩
    | cons w rest =>
      rw [step_of_command hphase hcmds]
      exact runValue_next_of_lt _ w.value_lt
  by_cases hwaits : s.phase = .waiting
  · exact ⟨s, step_of_waiting hwaits⟩
  obtain ⟨f, hf⟩ := h.expectedFormat_some hphase hwaits
  rw [step_of_expectedFormat hf]
  exact (fetchValue_yields h (expectedIn_of_expectedFormat hf)).onInput fun v inp hv => runValue_next_of_lt _ hv

end Sys2Proof.Machine
end

section
/-! Table-assisted decoding against the walk (R160, R189 to R192). With the table's bits in ACC an entry is where the walk comes
with these bits, so the table decodes as the walk does from there; and that the bits were moved into ACC beforehand changes
neither a bit nor a request of the walk. -/

namespace Sys2Proof.Machine

/-! ## Input layers that hold the same bits -/

/-- Two input layers that differ at most in how the bits received are split between ACC and INBUF (R154, R160). -/
structure Input.SameHeld (cap : Nat) (a b : Input) : Prop where
  left : a.Ready cap
  right : b.Ready cap
  pending : a.pendingBits = b.pendingBits
  src : a.src = b.src

theorem Input.pendingBits_length {inp : Input} (hd : inp.direct = []) :
    inp.pendingBits.length = inp.accN + 8 * (inp.inFill - inp.inPos) := by
  simp [Input.pendingBits, hd]

/-- Where the sources are the same, the same bits are ahead exactly where the same bits are held. -/
theorem Input.pendingBits_eq_iff {a b : Input} (h : a.src = b.src) : a.pendingBits = b.pendingBits ↔ a.ahead = b.ahead := by
  rw [Input.ahead, Input.ahead, h, List.append_left_inj]

/-- Two reads that end alike: with the same value and the same bits held, or in the same way otherwise, the source asked alike. -/
inductive InRes.Alike {α : Type} (cap : Nat) : InRes α → InRes α → Prop where
  | ok (v : α) {a b : Input} (h : a.SameHeld cap b) : Alike cap (.ok v a) (.ok v b)
  | fatal (c : Cause) (i : ErrInfo) {a b : Input} (h : a.src = b.src) : Alike cap (.fatal c i a) (.fatal c i b)
  | wait {a b : Input} (h : a.src = b.src) : Alike cap (.wait a) (.wait b)
  | stop (f : Fault) : Alike cap (.stop f) (.stop f)

section
variable {cap : Nat} {a b : Input}

theorem InRes.Alike.ended {α : Type} (e : SrcEnd) (h : a.src = b.src) :
    (InRes.ended e a : InRes α).Alike cap (.ended e b) := by
  cases e with
  | endOfData => exact .fatal _ _ h
  | ioError p => exact .fatal _ _ h
  | silent => exact .wait h

theorem InRes.Alike.andThen {α β : Type} {r r' : InRes α} {k : α → Input → InRes β} (h : r.Alike cap r')
    (hk : ∀ v a b, a.SameHeld cap b → (k v a).Alike cap (k v b)) : (r.andThen k).Alike cap (r'.andThen k) := by
  cases h with
  | ok v h => exact hk v _ _ h
  | fatal c i h => exact .fatal c i h
  | wait h => exact .wait h
  | stop f => exact .stop f

/-! ## The walk -/

/-- A bit read where CORE holds none takes one request, the same whatever the input layer held before (R62, R155). -/
theorem readBits_one_src {inp inp' : Input} {v : Nat} (hacc : inp.accN = 0) (hempty : inp.inPos = inp.inFill)
    (h : readBits cap 1 inp = .ok v inp') : inp'.src = (srcRequest cap inp.src).2 := by
  rw [readBits, fillAcc_succ (by omega), fetchByte_of_empty hempty] at h
  rcases refillInput_cases cap inp with
    ⟨bs, inp₁, hreq, hrefill⟩ | ⟨inp₁, -, hrefill⟩ | ⟨p, inp₁, -, hrefill⟩ | ⟨inp₁, -, hrefill⟩
  · rw [hrefill] at h
    obtain ⟨-, rfl⟩ := InRes.ok.inj h
    obtain rfl : (inp.request cap).2 = inp₁ := by rw [hreq]
    rfl
  all_goals simp [hrefill] at h

/-- Where no bit is ahead, one request is made in vain (R155). -/
theorem readBits_one_short {inp : Input} (h : inp.Ready cap) (hnone : inp.ahead = []) :
    readBits cap 1 inp = .ended inp.src.ending (inp.askedInVain cap) := by
  have hlen := inp.ahead_length
  have hcursor := h.2.1.cursor
  rw [hnone, List.length_nil] at hlen
  have hrest : inp.src.rest = [] := List.length_eq_zero_iff.mp (by omega)
  rw [readBits, fillAcc_succ (by omega), fetchByte_of_empty (by omega), refillInput_of_rest_nil hrest]
  simp only [InRes.ended_andThen]

/-- A bit is read alike from input layers that hold the same bits. -/
theorem readBits_one_alike (h : a.SameHeld cap b) : (readBits cap 1 a).Alike cap (readBits cap 1 b) := by
  have hahead : a.ahead = b.ahead := (Input.pendingBits_eq_iff h.src).mp h.pending
  have hheld : a.accN + 8 * (a.inFill - a.inPos) = b.accN + 8 * (b.inFill - b.inPos) := by
    rw [← Input.pendingBits_length h.left.2.2.2, ← Input.pendingBits_length h.right.2.2.2, h.pending]
  have hcursor := h.left.2.1.cursor
  have hcursor' := h.right.2.1.cursor
  cases ha : a.ahead with
  | nil =>
    rw [readBits_one_short h.left ha, readBits_one_short h.right (hahead ▸ ha), h.src]
    exact .ended _ (by simp only [Input.askedInVain, h.src])
  | cons bit rest =>
    obtain ⟨a', hra, haa, hready⟩ := readBits_one h.left ha
    obtain ⟨b', hrb, hab, hready'⟩ := readBits_one h.right (hahead ▸ ha)
    have hsrc : a'.src = b'.src := by
      by_cases hz : a.accN + 8 * (a.inFill - a.inPos) = 0
      · rw [readBits_one_src (by omega) (by omega) hra, readBits_one_src (by omega) (by omega) hrb, h.src]
      · rw [(bufferedBitsNeedNoRequest cap 1 _ a a' h.left (by decide) hra).1 (by omega),
          (bufferedBitsNeedNoRequest cap 1 _ b b' h.right (by decide) hrb).1 (by omega), h.src]
    rw [hra, hrb]
    exact .ok _ ⟨hready, hready', (Input.pendingBits_eq_iff hsrc).mpr (haa.trans hab.symm), hsrc⟩

/-- The walk decodes alike from input layers that hold the same bits. -/
theorem walkTree_alike (t : Tree) (fuel k : Nat) (h : a.SameHeld cap b) :
    (walkTree cap t fuel k a).Alike cap (walkTree cap t fuel k b) := by
  induction fuel generalizing k a b with
  | zero => exact .stop _
  | succ fuel ih =>
    rw [walkTree_succ, walkTree_succ]
    refine (readBits_one_alike h).andThen fun v a b h => ?_
    rcases t.child k (v == 1) with _ | _ | s | _ | k'
    · exact .stop _
    · exact .stop _
    · exact .ok s h
    · exact .ok dummySym h
    · exact ih k' h

end

/-! ## The table's entries -/

/-- The walk's next bit, where ACC holds it: bit `u` of ACC (R151, R189). -/
theorem walkTree_dropBits (cap : Nat) (t : Tree) (fuel k : Nat) {u : Nat} {inp : Input} (hu : u < inp.accN) :
    walkTree cap t (fuel + 1) k (inp.dropBits u) =
      walkFrom cap t fuel (t.child k (inp.acc.toNat.testBit u)) (inp.dropBits (u + 1)) := by
  have hone : 1 ≤ (inp.dropBits u).accN := by simp only [Input.dropBits]; omega
  have hbit : ((inp.dropBits u).acc.toNat % 2 ^ 1 == 1) = inp.acc.toNat.testBit u := by
    rw [Nat.testBit_eq_decide_div_mod_eq]
    simp [Input.dropBits, Nat.shiftRight_eq_div_pow, Bool.beq_eq_decide_eq]
  rw [walkTree_succ, readBits_enough cap hone, InRes.andThen_of_ok, hbit]
  exact congrArg _ (inp.dropBits_dropBits u 1)

/-- BuildTable's walk goes on from a node until its bits are used up (R189). -/
theorem tableWalk_succ (t : Tree) {bits x fuel u k : Nat} (hu : u + (fuel + 1) = bits) :
    tableWalk t bits x (fuel + 1) u k =
      match t.child k (x.testBit u) with
      | some (.node k') => tableWalk t bits x fuel (u + 1) k'
      | some slot => ⟨u + 1, slot⟩
      | none => ⟨u + 1, .opn⟩ := by
  rw [tableWalk]
  rcases t.child k (x.testBit u) with _ | _ | _ | _ | k'
  case node =>
    dsimp only
    split
    · obtain rfl : fuel = 0 := by omega
      rfl
    · rfl
  all_goals rfl

/-- An entry leads where the walk comes with its bits (R189, R191). -/
theorem useEntry_tableWalk {cap bits : Nat} {t : Tree} {inp : Input} (hbits : bits ≤ Config.maxCodeLen) (hacc : bits ≤ inp.accN)
    {fuel u k : Nat} (hu : u + fuel = bits) :
    useEntry cap t (tableWalk t bits (inp.acc.toNat % 2 ^ bits) fuel u k) inp =
      walkTree cap t (Config.maxCodeLen - u) k (inp.dropBits u) := by
  induction fuel generalizing u k with
  | zero =>
    have hused : u ≤ inp.accN := by omega
    rw [tableWalk, useEntry, takeBits_eq hused, InRes.andThen_of_ok]
  | succ fuel ih =>
    obtain ⟨left, hleft⟩ : ∃ n, Config.maxCodeLen - u = n + 1 := ⟨Config.maxCodeLen - u - 1, by omega⟩
    have hnext : Config.maxCodeLen - (u + 1) = left := by omega
    have hbit : (inp.acc.toNat % 2 ^ bits).testBit u = inp.acc.toNat.testBit u := by
      simp [Nat.testBit_mod_two_pow, show u < bits by omega]
    rw [hleft, walkTree_dropBits cap t left k (by omega), tableWalk_succ t hu, hbit]
    rcases t.child k (inp.acc.toNat.testBit u) with _ | _ | _ | _ | k'
    case node =>
      dsimp only
      rw [ih (by omega), hnext]
      rfl
    all_goals
      dsimp only
      rw [useEntry, takeBits_eq (by dsimp only; omega)]
      rfl

/-- Where the table's bits are held, table-assisted decoding is the walk from an input layer that holds the same bits (R191). -/
theorem decodeSymByTable_eq {cap bits : Nat} (t : Tree) {inp : Input} (hbits : bits ≤ Config.maxCodeLen) (h : inp.Ready cap)
    (hheld : bits ≤ inp.accN + 8 * (inp.inFill - inp.inPos)) :
    ∃ inp', inp.SameHeld cap inp' ∧ decodeSymByTable cap bits (mkCode bits t) inp = decodeSym cap t inp' := by
  have hlen : bits ≤ inp.ahead.length := by
    rw [Input.ahead_length]
    omega
  have hmax : Config.maxCodeLen = 15 := rfl
  rcases fillAcc_cases (n := bits) (fuel := bits) h (by omega) (by omega) with
    ⟨inp', k, hfill, -, hready, hahead, hacc, -, hzero, hpos⟩ | ⟨hshort, -⟩
  · have hk : k = 0 := by
      by_contra hk
      have := hpos (by omega)
      omega
    obtain ⟨hsrc, -⟩ := hzero hk
    have hentry : (mkCode bits t).table[inp'.acc.toNat % 2 ^ bits]? =
        some (tableWalk t bits (inp'.acc.toNat % 2 ^ bits) bits 0 0) := by
      rw [mkCode, buildTable, List.getElem?_map, List.getElem?_range (Nat.mod_lt _ (Nat.two_pow_pos bits))]
      rfl
    refine ⟨inp', ⟨h, hready, (Input.pendingBits_eq_iff hsrc.symm).mpr hahead.symm, hsrc.symm⟩, ?_⟩
    rw [decodeSymByTable, hfill, InRes.andThen_of_ok, hentry]
    exact useEntry_tableWalk hbits hacc (Nat.zero_add _)
  · omega

/-- Settles O19: both decode by the walk, from input layers that hold the same bits, and in a full tree the walk does not stop. -/
theorem tableDecodesAsTheTreeWalk : Obligations.TableDecodesAsTheTreeWalk := by
  intro cap bits kind t inp hfull _ hbits h hheld
  obtain ⟨inp', hsame, htable⟩ := decodeSymByTable_eq t hbits h hheld
  have halike : (decodeSym cap t inp).Alike cap (decodeSym cap t inp') := walkTree_alike t _ 0 hsame
  have hgoes := decodeSym_yields hfull cap inp
  rw [htable]
  generalize decodeSym cap t inp = walk at halike hgoes ⊢
  generalize decodeSym cap t inp' = assisted at halike ⊢
  cases halike with
  | ok s h => exact ⟨_, rfl, h.pending.symm, h.src.symm⟩
  | fatal c i h => exact ⟨_, rfl, h.symm⟩
  | wait h => exact ⟨_, rfl, h.symm⟩
  | stop f => exact hgoes

end Sys2Proof.Machine
end

section
/-! The level-by-level builder against R183's slot-by-slot pseudocode. The pseudocode's open slots are at every length the last
slots of its array, from left to right; filling and deepening them is what a level of `growTree` writes out. -/

namespace Sys2Proof.Machine

/-- R183's inner loop on an array that ends in `n` open slots: the symbols of length `l` replace the first of them. -/
theorem placeLength_eq (l : Nat) (todo : List (Nat × Slot)) (pre : Tree) (n : Nat) :
    placeLength l todo (pre ++ List.replicate n .opn) (List.range' pre.length n) =
      if n < (todo.takeWhile fun p => p.1 == l).length then .error .huffOversub
      else .ok ⟨(pre ++ (todo.takeWhile fun p => p.1 == l).map Prod.snd) ++
            List.replicate (n - (todo.takeWhile fun p => p.1 == l).length) .opn,
          List.range' (pre ++ (todo.takeWhile fun p => p.1 == l).map Prod.snd).length
            (n - (todo.takeWhile fun p => p.1 == l).length),
          todo.dropWhile fun p => p.1 == l⟩ := by
  induction todo generalizing pre n with
  | nil => simp [placeLength]
  | cons p todo ih =>
    obtain ⟨l', leaf⟩ := p
    by_cases hl : l' = l
    · subst hl
      cases n with
      | zero => simp [placeLength]
      | succ n =>
        have hset : (pre ++ List.replicate (n + 1) Slot.opn).set pre.length leaf = (pre ++ [leaf]) ++ List.replicate n .opn := by
          simp [List.replicate_succ]
        have hplaced := ih (pre ++ [leaf]) n
        rw [List.length_append, List.length_singleton] at hplaced
        rw [List.range'_succ, placeLength, if_pos rfl, hset, hplaced]
        simp
    · simp [placeLength, hl]

/-- R183's deepening: the open slots become the nodes from `next` on, and two open slots for each follow at the array's end. -/
theorem deepen_eq (n next : Nat) (pre tail : Tree) (hnext : pre.length + n + tail.length = 2 * next) :
    deepen (List.range' pre.length n) (pre ++ List.replicate n .opn ++ tail) =
      (pre ++ (List.range' next n).map Slot.node ++ tail ++ List.replicate (2 * n) .opn, List.range' (2 * next) (2 * n)) := by
  induction n generalizing next pre tail with
  | zero => simp [deepen]
  | succ n ih =>
    have hlen : (pre ++ List.replicate (n + 1) Slot.opn ++ tail).length = 2 * next := by simp; omega
    have hset : (pre ++ List.replicate (n + 1) Slot.opn ++ tail).set pre.length (.node next) ++ [.opn, .opn] =
        (pre ++ [.node next]) ++ List.replicate n .opn ++ (tail ++ [.opn, .opn]) := by
      simp [List.replicate_succ]
    have hdeep := ih (next + 1) (pre ++ [.node next]) (tail ++ [.opn, .opn]) (by simp; omega)
    rw [List.length_append, List.length_singleton] at hdeep
    rw [List.range'_succ, deepen, hlen, Nat.mul_div_cancel_left _ (by decide), hset, hdeep]
    simp [List.range'_succ, Nat.mul_add, List.replicate_succ]

/-- From an array that ends in its open slots, `next` being half its length, R183's loop adds what `growTree` writes out. -/
theorem growSlots_eq (fuel l n next : Nat) (todo : List (Nat × Slot)) (pre : Tree) (hnext : pre.length + n = 2 * next) :
    growSlots fuel l ⟨pre ++ List.replicate n .opn, List.range' pre.length n, todo⟩ =
      (growTree fuel l todo n next).map (pre ++ ·) := by
  induction fuel generalizing l n next todo pre with
  | zero => rfl
  | succ fuel ih =>
    rw [growSlots, growTree, placeLength_eq]
    dsimp only
    generalize todo.takeWhile (fun p => p.1 == l) = here
    generalize todo.dropWhile (fun p => p.1 == l) = rest
    by_cases hover : n < here.length
    · simp only [if_pos hover, Except.map]
    · simp only [if_neg hover]
      obtain ⟨left, rfl⟩ := Nat.exists_eq_add_of_le (Nat.le_of_not_lt hover)
      rw [Nat.add_sub_cancel_left]
      cases rest with
      | nil => cases left <;> simp [Except.map]
      | cons p rest =>
        have hdeep := deepen_eq left next (pre ++ here.map Prod.snd) [] (by simp; omega)
        have hlevel : (pre ++ here.map Prod.snd ++ (List.range' next left).map Slot.node).length = 2 * next := by simp; omega
        have hbelow := ih (l + 1) (2 * left) (next + left) (p :: rest)
          (pre ++ here.map Prod.snd ++ (List.range' next left).map Slot.node) (by rw [hlevel]; omega)
        rw [hlevel] at hbelow
        simp only [List.append_nil] at hdeep
        rw [hdeep]
        simp only [List.isEmpty_cons, Bool.false_eq_true, if_false]
        rw [hbelow]
        cases growTree fuel (l + 1) (p :: rest) (2 * left) (next + left) <;> simp [Except.map]

/-- Settles O16: the pseudocode begins with an array of the root's two open slots alone. -/
theorem builderFollowsThePseudocode : Obligations.BuilderFollowsThePseudocode := by
  intro lens kind _
  have hgrow := growSlots_eq Config.maxCodeLen 1 2 1 (withDummy kind (codedSymbols lens)) [] rfl
  have hsame : growSlots Config.maxCodeLen 1 ⟨[.opn, .opn], [0, 1], withDummy kind (codedSymbols lens)⟩ =
      treeOfSymbols (withDummy kind (codedSymbols lens)) := by
    refine hgrow.trans ?_
    unfold treeOfSymbols
    cases growTree Config.maxCodeLen 1 (withDummy kind (codedSymbols lens)) 2 1 <;> rfl
  rw [buildTree, buildTreeBySlots, hsame]

end Sys2Proof.Machine
end

section
/-! The builder by counting (R181, R183 to R187): one level of it on symbols sorted by length, and from that the outcome of a
build, the size of the tree, and the lone distance code. -/

namespace Sys2Proof.Machine

/-! ## Symbols sorted by length -/

/-- The slots of the symbols of length `l`, in order. -/
def levelSlots (todo : List (Nat × Slot)) (l : Nat) : List Slot := (todo.filter fun p => p.1 == l).map Prod.snd

/-- The symbols that remain behind those of length `l`. -/
def beyondLevel (todo : List (Nat × Slot)) (l : Nat) : List (Nat × Slot) := todo.filter fun p => !(p.1 == l)

/-- The symbols are sorted by length, and none is shorter than `l` (R183). -/
def SortedFrom (l : Nat) (todo : List (Nat × Slot)) : Prop :=
  todo.Pairwise (fun p q => p.1 ≤ q.1) ∧ ∀ p ∈ todo, l ≤ p.1

section
variable {l : Nat} {todo : List (Nat × Slot)}

/-- In sorted symbols those of the least length come first. -/
theorem SortedFrom.takeWhile_dropWhile (h : SortedFrom l todo) :
    (todo.takeWhile fun p => p.1 == l) = (todo.filter fun p => p.1 == l) ∧
      (todo.dropWhile fun p => p.1 == l) = beyondLevel todo l := by
  obtain ⟨hsorted, hleast⟩ := h
  induction todo with
  | nil => exact ⟨rfl, rfl⟩
  | cons p todo ih =>
    obtain ⟨hp, hsorted⟩ := List.pairwise_cons.mp hsorted
    by_cases hl : p.1 = l
    · obtain ⟨htake, hdrop⟩ := ih hsorted fun q hq => hleast q (List.mem_cons_of_mem p hq)
      simpa [hl, beyondLevel] using ⟨htake, hdrop⟩
    · have hlong : ∀ q ∈ todo, ¬q.1 = l := by
        intro q hq
        have := hp q hq
        have := hleast p List.mem_cons_self
        omega
      have hnone : (todo.filter fun q => q.1 == l) = [] := List.filter_eq_nil_iff.mpr (by simpa using hlong)
      have hall : (todo.filter fun q => !(q.1 == l)) = todo := List.filter_eq_self.mpr (by simpa using hlong)
      simp [hl, beyondLevel, hnone, hall]

theorem SortedFrom.beyondLevel (h : SortedFrom l todo) : SortedFrom (l + 1) (beyondLevel todo l) := by
  refine ⟨h.1.filter _, fun p hp => ?_⟩
  obtain ⟨hmem, hne⟩ := List.mem_filter.mp hp
  have := h.2 p hmem
  have : p.1 ≠ l := by simpa using hne
  omega

theorem levelSlots_beyondLevel {m : Nat} (h : m ≠ l) : levelSlots (beyondLevel todo l) m = levelSlots todo m := by
  rw [levelSlots, beyondLevel, List.filter_filter, levelSlots]
  congr 1
  refine List.filter_congr fun p _ => ?_
  by_cases hp : p.1 = m <;> simp [hp, h]

theorem levelSlots_of_beyondLevel_nil {m : Nat} (hnone : beyondLevel todo l = []) (h : m ≠ l) : levelSlots todo m = [] := by
  rw [← levelSlots_beyondLevel h, hnone]
  rfl

theorem levelSlots_add_beyondLevel : (levelSlots todo l).length + (beyondLevel todo l).length = todo.length := by
  rw [levelSlots, List.length_map, beyondLevel]
  exact (List.length_eq_length_filter_add _).symm

end

/-! ## One level of the builder -/

/-- One level of R183 on sorted symbols. -/
theorem growTree_succ {l : Nat} {todo : List (Nat × Slot)} (h : SortedFrom l todo) (fuel opens next : Nat) :
    growTree (fuel + 1) l todo opens next =
      if opens < (levelSlots todo l).length then .error .huffOversub
      else if beyondLevel todo l = [] then
        if opens = (levelSlots todo l).length then .ok (levelSlots todo l) else .error .huffIncomplete
      else
        (growTree fuel (l + 1) (beyondLevel todo l) (2 * (opens - (levelSlots todo l).length))
          (next + (opens - (levelSlots todo l).length))).map fun deeper =>
            levelSlots todo l ++ nodeRun next (opens - (levelSlots todo l).length) ++ deeper := by
  obtain ⟨htake, hdrop⟩ := h.takeWhile_dropWhile
  rw [growTree]
  simp only [htake, hdrop, levelSlots, List.length_map, nodeRun, List.isEmpty_iff]
  split
  · rfl
  · split
    · split
      · rename_i heq
        simp [heq]
      · rfl
    · rfl

/-- What a level of a successful build was: the last one, which its symbols fill, or one whose other slots became nodes. -/
theorem growTree_succ_ok {fuel l opens next : Nat} {todo : List (Nat × Slot)} {r : Tree} (h : SortedFrom l todo)
    (hr : growTree (fuel + 1) l todo opens next = .ok r) :
    ∃ left, opens = (levelSlots todo l).length + left ∧
      ((beyondLevel todo l = [] ∧ left = 0 ∧ r = levelSlots todo l) ∨
        ∃ deeper, growTree fuel (l + 1) (beyondLevel todo l) (2 * left) (next + left) = .ok deeper ∧
          r = levelSlots todo l ++ nodeRun next left ++ deeper) := by
  rw [growTree_succ h] at hr
  split at hr
  · simp at hr
  · rename_i hfits
    obtain ⟨left, rfl⟩ := Nat.exists_eq_add_of_le (Nat.le_of_not_lt hfits)
    rw [Nat.add_sub_cancel_left] at hr
    refine ⟨left, rfl, ?_⟩
    split at hr
    · split at hr
      · rename_i hnone hall
        exact .inl ⟨hnone, by omega, (Except.ok.inj hr).symm⟩
      · simp at hr
    · generalize growTree fuel (l + 1) (beyondLevel todo l) (2 * left) (next + left) = built at hr ⊢
      cases built with
      | error c => simp [Except.map] at hr
      | ok deeper => exact .inr ⟨deeper, rfl, (Except.ok.inj hr).symm⟩

/-- At the last level the symbols fill the open slots, or slots stay open. -/
theorem growTree_last {l : Nat} {todo : List (Nat × Slot)} (h : SortedFrom l todo) (hlast : beyondLevel todo l = [])
    (fuel opens next : Nat) :
    growTree (fuel + 1) l todo opens next =
      if opens < (levelSlots todo l).length then .error .huffOversub
      else if opens = (levelSlots todo l).length then .ok (levelSlots todo l) else .error .huffIncomplete := by
  rw [growTree_succ h, if_pos hlast]

/-- With a length to come the build may go on even where no symbol remains: it ends there as it would have ended here. -/
theorem growTree_step {l : Nat} {todo : List (Nat × Slot)} (h : SortedFrom l todo) (fuel opens next : Nat) :
    growTree (fuel + 2) l todo opens next =
      if opens < (levelSlots todo l).length then .error .huffOversub
      else
        (growTree (fuel + 1) (l + 1) (beyondLevel todo l) (2 * (opens - (levelSlots todo l).length))
          (next + (opens - (levelSlots todo l).length))).map fun deeper =>
            levelSlots todo l ++ nodeRun next (opens - (levelSlots todo l).length) ++ deeper := by
  rw [growTree_succ h]
  split
  · rfl
  rename_i hfits
  obtain ⟨left, rfl⟩ := Nat.exists_eq_add_of_le (Nat.le_of_not_lt hfits)
  rw [Nat.add_sub_cancel_left]
  split
  · rename_i hnone
    rw [hnone, growTree_last ⟨.nil, by simp⟩ rfl]
    cases left <;> simp [levelSlots, nodeRun, Except.map]
  · rfl

/-! ## The outcome of a build (R185) -/

/-- The outcome of a build over the lengths `l` to `l + fuel` by the count `o` of the open slots of each depth (R185). -/
theorem growTree_outcome {fuel l opens next : Nat} {todo : List (Nat × Slot)} {o : Nat → Int} (hsorted : SortedFrom l todo)
    (hmax : ∀ p ∈ todo, p.1 ≤ l + fuel) (ho : o l = opens)
    (hstep : ∀ m, l ≤ m → m ≤ l + fuel → o (m + 1) = 2 * (o m - (levelSlots todo m).length)) :
    ((∃ m, l ≤ m ∧ m ≤ l + fuel ∧ o m < (levelSlots todo m).length) →
        growTree (fuel + 1) l todo opens next = .error .huffOversub) ∧
      ((∀ m, l ≤ m → m ≤ l + fuel → ((levelSlots todo m).length : Int) ≤ o m) →
        (0 < o (l + fuel + 1) → growTree (fuel + 1) l todo opens next = .error .huffIncomplete) ∧
          (o (l + fuel + 1) = 0 → ∃ t, growTree (fuel + 1) l todo opens next = .ok t)) := by
  induction fuel generalizing l opens next todo with
  | zero =>
    have hnext := hstep l (le_refl l) (le_refl l)
    have hlast : beyondLevel todo l = [] := by
      refine List.eq_nil_iff_forall_not_mem.mpr fun p hp => ?_
      have := hsorted.beyondLevel.2 p hp
      have := hmax p (List.mem_of_mem_filter hp)
      omega
    rw [growTree_last hsorted hlast]
    refine ⟨fun ⟨m, hm, hle, hless⟩ => ?_, fun hfits => ?_⟩
    · obtain rfl : m = l := by omega
      exact if_pos (by omega)
    · have := hfits l (le_refl l) (le_refl l)
      rw [if_neg (by omega), Nat.add_zero]
      exact ⟨fun hopen => if_neg (by omega), fun hclosed => ⟨_, if_pos (by omega)⟩⟩
  | succ fuel ih =>
    have hnext := hstep l (le_refl l) (by omega)
    rw [growTree_step hsorted]
    by_cases hover : opens < (levelSlots todo l).length
    · rw [if_pos hover]
      refine ⟨fun _ => rfl, fun hfits => ?_⟩
      have := hfits l (le_refl l) (by omega)
      omega
    rw [if_neg hover]
    have hsame : ∀ m, l + 1 ≤ m → levelSlots (beyondLevel todo l) m = levelSlots todo m := fun m hm =>
      levelSlots_beyondLevel (by omega)
    have hbelow := ih (next := next + (opens - (levelSlots todo l).length))
      (opens := 2 * (opens - (levelSlots todo l).length)) hsorted.beyondLevel
      (fun q hq => by have := hmax q (List.mem_of_mem_filter hq); omega) (by omega)
      (fun m hm hle => by rw [hsame m hm]; exact hstep m (by omega) (by omega))
    rw [show l + 1 + fuel = l + (fuel + 1) by omega] at hbelow
    obtain ⟨hover', hfits'⟩ := hbelow
    refine ⟨fun ⟨m, hm, hle, hless⟩ => ?_, fun hfits => ?_⟩
    · have hml : m ≠ l := by rintro rfl; omega
      rw [hover' ⟨m, by omega, hle, by rwa [hsame m (by omega)]⟩]
      rfl
    · obtain ⟨hopen', hclosed'⟩ := hfits' fun m hm hle => by rw [hsame m hm]; exact hfits m (by omega) hle
      refine ⟨fun hopen => by rw [hopen' hopen]; rfl, fun hclosed => ?_⟩
      obtain ⟨t, ht⟩ := hclosed' hclosed
      exact ⟨_, by rw [ht]; rfl⟩

end Sys2Proof.Machine
end

section
/-! What the builder's results are by the code lengths (R180, R181, R183, R185 to R187): the coded symbols of a list of lengths,
counted, and from them the outcome of a build, the size of its tree, and the lone distance code. -/

namespace Sys2Proof.Machine

/-! ## The coded symbols of a list of lengths -/

theorem flatMap_ite_eq {α : Type} {ls : List Nat} {m : Nat} (hd : ls.Nodup) (hm : m ∈ ls) (f : Nat → List α) :
    ls.flatMap (fun l => if l = m then f l else []) = f m := by
  induction ls with
  | nil => simp at hm
  | cons l ls ih =>
    obtain ⟨hl, hd⟩ := List.nodup_cons.mp hd
    by_cases h : l = m
    · subst h
      have hrest : ls.flatMap (fun k => if k = l then f k else []) = [] :=
        List.flatMap_eq_nil_iff.mpr fun k hk => if_neg (by rintro rfl; exact hl hk)
      simp [hrest]
    · simpa [h] using ih hd ((List.mem_cons.mp hm).resolve_left (Ne.symm h))

theorem countP_mem_cons {l : Nat} {ls : List Nat} (hl : l ∉ ls) (lens : List Nat) :
    lens.countP (· ∈ l :: ls) = lens.count l + lens.countP (· ∈ ls) := by
  induction lens with
  | nil => rfl
  | cons x lens ih =>
    rw [List.countP_cons, List.count_cons, List.countP_cons, ih]
    by_cases hx : x = l
    · simp [hx, hl]
      omega
    · simp [hx]
      omega

theorem sum_count_eq_countP {ls : List Nat} (hd : ls.Nodup) (lens : List Nat) :
    (ls.map lens.count).sum = lens.countP (· ∈ ls) := by
  induction ls with
  | nil => simp
  | cons l ls ih =>
    obtain ⟨hl, hd⟩ := List.nodup_cons.mp hd
    rw [List.map_cons, List.sum_cons, ih hd, countP_mem_cons hl]

section
variable {lens : List Nat}

theorem symbolsOfLength_fst {l : Nat} {p : Nat × Slot} (h : p ∈ symbolsOfLength lens l) : p.1 = l := by
  obtain ⟨_, -, rfl⟩ := List.mem_map.mp h
  rfl

theorem symbolsOfLength_length (lens : List Nat) (l : Nat) : (symbolsOfLength lens l).length = lens.count l := by
  rw [symbolsOfLength, List.length_map, ← List.countP_eq_length_filter, List.count]
  conv_rhs => rw [← List.zipIdx_map_fst 0 lens, List.countP_map]
  rfl

/-- `S` of R183 is sorted by length. -/
theorem codedSymbols_sorted (lens : List Nat) : SortedFrom 1 (codedSymbols lens) := by
  constructor
  · refine List.pairwise_flatMap.mpr ⟨fun l _ => List.pairwise_of_forall_mem_list fun p hp q hq => ?_, ?_⟩
    · exact (symbolsOfLength_fst hp).le.trans (symbolsOfLength_fst hq).ge
    · refine (List.pairwise_lt_range' 1).imp fun hlt p hp q hq => ?_
      rw [symbolsOfLength_fst hp, symbolsOfLength_fst hq]
      exact hlt.le
  · intro p hp
    obtain ⟨l, hl, hp⟩ := List.mem_flatMap.mp hp
    rw [symbolsOfLength_fst hp]
    exact (List.mem_range'_1.mp hl).1

theorem codedSymbols_le {p : Nat × Slot} (h : p ∈ codedSymbols lens) : p.1 ≤ 15 := by
  obtain ⟨l, hl, hp⟩ := List.mem_flatMap.mp h
  have := (List.mem_range'_1.mp hl).2
  rw [symbolsOfLength_fst hp]
  simp only [Config.maxCodeLen] at this
  omega

theorem levelSlots_codedSymbols {l : Nat} (hlo : 1 ≤ l) (hhi : l ≤ 15) :
    levelSlots (codedSymbols lens) l = (symbolsOfLength lens l).map Prod.snd := by
  have hfilter : ∀ k, ((symbolsOfLength lens k).filter fun p => p.1 == l) = if k = l then symbolsOfLength lens k else [] := by
    intro k
    split
    · exact List.filter_eq_self.mpr fun p hp => by simp [symbolsOfLength_fst hp, *]
    · exact List.filter_eq_nil_iff.mpr fun p hp => by simp [symbolsOfLength_fst hp, *]
  rw [levelSlots, codedSymbols, List.filter_flatMap]
  simp only [hfilter]
  rw [flatMap_ite_eq List.nodup_range' (List.mem_range'_1.mpr ⟨hlo, by simp only [Config.maxCodeLen]; omega⟩)]

theorem codedSymbols_length (hlens : ∀ l ∈ lens, l ≤ 15) : (codedSymbols lens).length = (lens.filter (· ≠ 0)).length := by
  rw [codedSymbols, List.length_flatMap]
  simp only [symbolsOfLength_length]
  rw [sum_count_eq_countP List.nodup_range', ← List.countP_eq_length_filter]
  refine List.countP_congr fun l hl => ?_
  have := hlens l hl
  simp [List.mem_range'_1, Config.maxCodeLen]
  omega

end

/-! ## BuildTree -/

/-- A code that is no distance code of at most one symbol has no special case (R185). -/
theorem buildTree_eq {kind : CodeKind} {lens : List Nat} (h : kind = .dist → 2 ≤ (codedSymbols lens).length) :
    buildTree lens kind = (treeOfSymbols (codedSymbols lens)).map some := by
  have hsame : withDummy kind (codedSymbols lens) = codedSymbols lens := by
    unfold withDummy
    split
    · rename_i heq
      simp [heq] at h
    · rfl
  have hsome : ¬(kind = .dist ∧ codedSymbols lens = []) := by
    rintro ⟨hkind, hnone⟩
    simp [hnone] at h
    exact h hkind
  rw [buildTree, if_neg hsome, hsame]

/-- Settles O12: the builder's open slots are those counted, level by level. -/
theorem buildOutcomeByCounting : Obligations.BuildOutcomeByCounting := by
  intro lens kind hlens hdist
  have hcount : ∀ l, 1 ≤ l → l ≤ 1 + 14 → (levelSlots (codedSymbols lens) l).length = lengthCount lens l := by
    intro l hlo hhi
    rw [levelSlots_codedSymbols hlo hhi, List.length_map, symbolsOfLength_length, lengthCount, if_neg (by omega)]
  obtain ⟨hover, hfits⟩ := growTree_outcome (fuel := 14) (next := 1) (opens := 2) (o := openSlots lens) (codedSymbols_sorted lens)
    (fun p => codedSymbols_le) rfl (fun l hlo hhi => by rw [hcount l hlo hhi]; rfl)
  rw [buildTree_eq fun hkind => by rw [codedSymbols_length hlens]; exact hdist hkind,
    show treeOfSymbols (codedSymbols lens) = growTree (14 + 1) 1 (codedSymbols lens) 2 1 from rfl]
  refine ⟨fun ⟨l, hlo, hhi, hless⟩ => ?_, fun hall => ?_⟩
  · rw [hover ⟨l, hlo, hhi, by rwa [hcount l hlo hhi]⟩]
    rfl
  · obtain ⟨hopen, hclosed⟩ := hfits fun l hlo hhi => by rw [hcount l hlo hhi]; exact hall l hlo hhi
    refine ⟨fun h => by rw [hopen h]; rfl, fun h => ?_⟩
    obtain ⟨t, ht⟩ := hclosed h
    exact ⟨t, by rw [ht]; rfl⟩

/-! ## The lone distance code (R186, R187) -/

theorem filter_zeros {n k l : Nat} (h : l ≠ 0) : (((List.replicate n 0).zipIdx k).filter fun p => p.1 == l) = [] := by
  refine List.filter_eq_nil_iff.mpr fun p hp => ?_
  rw [List.eq_of_mem_replicate (List.fst_mem_of_mem_zipIdx hp)]
  simpa using h.symm

theorem codedSymbols_zeros (n : Nat) : codedSymbols (List.replicate n 0) = [] := by
  refine List.flatMap_eq_nil_iff.mpr fun l hl => ?_
  have := (List.mem_range'_1.mp hl).1
  rw [symbolsOfLength, filter_zeros (by omega), List.map_nil]

theorem codedSymbols_lone {n s l : Nat} (hs : s < n) (hlo : 1 ≤ l) (hhi : l ≤ 15) :
    codedSymbols ((List.replicate n 0).set s l) = [(l, .leaf s)] := by
  have hlens : (List.replicate n 0).set s l = List.replicate s 0 ++ l :: List.replicate (n - (s + 1)) 0 := by
    rw [List.set_eq_take_append_cons_drop, if_pos (by simpa using hs), List.take_replicate, List.drop_replicate,
      Nat.min_eq_left hs.le]
  have hsymbols : ∀ k ∈ List.range' 1 Config.maxCodeLen,
      symbolsOfLength ((List.replicate n 0).set s l) k = if k = l then [(k, Slot.leaf s)] else [] := by
    intro k hk
    have hpos := (List.mem_range'_1.mp hk).1
    rw [hlens, symbolsOfLength, List.zipIdx_append, List.zipIdx_cons, List.filter_append, filter_zeros (by omega),
      List.nil_append, List.filter_cons, filter_zeros (by omega)]
    by_cases hkl : k = l
    · simp [hkl]
    · simp [hkl, Ne.symm hkl]
  have hmem : l ∈ List.range' 1 Config.maxCodeLen := List.mem_range'_1.mpr ⟨hlo, by simp only [Config.maxCodeLen]; omega⟩
  rw [codedSymbols, List.flatMap_congr hsymbols, flatMap_ite_eq List.nodup_range' hmem]

/-- Two symbols of one length leave slots open wherever more than two are open at that length. -/
theorem growTree_pair {fuel k l opens next : Nat} {a b : Slot} (hk : k ≤ l) (hl : l < k + fuel)
    (ho : 2 < opens ∨ opens = 2 ∧ k < l) : growTree fuel k [(l, a), (l, b)] opens next = .error .huffIncomplete := by
  induction fuel generalizing k opens next with
  | zero => rfl
  | succ fuel ih =>
    by_cases hkl : l = k
    · subst hkl
      have hopen : ¬opens < 2 ∧ opens ≠ 2 := by omega
      simp [growTree, hopen]
    · have hbelow : ∀ next, growTree fuel (k + 1) [(l, a), (l, b)] (2 * opens) next = .error .huffIncomplete := fun next =>
        ih (by omega) (by omega) (.inl (by omega))
      simp [growTree, hkl, hbelow, Except.map]

/-- Settles O13: a lone symbol and DUMMY are two symbols of one length, which fill the root's two slots or leave slots open. -/
theorem loneDistanceCode : Obligations.LoneDistanceCode := by
  intro n
  refine ⟨by rw [buildTree, codedSymbols_zeros]; rfl, fun s l hs hlo hhi => ?_⟩
  have hbuild : buildTree ((List.replicate n 0).set s l) .dist = (treeOfSymbols [(l, .leaf s), (l, .dummy)]).map some := by
    rw [buildTree, codedSymbols_lone hs hlo hhi]
    rfl
  rw [hbuild]
  split
  · subst l
    rfl
  · rw [treeOfSymbols, growTree_pair hlo (by simp only [Config.maxCodeLen]; omega) (.inr ⟨rfl, by omega⟩)]
    rfl

/-! ## The size of a tree (R181) -/

/-- Each symbol takes a slot, and each node takes one and opens two. -/
theorem growTree_length {fuel l opens next : Nat} {todo : List (Nat × Slot)} {r : Tree} (h : SortedFrom l todo)
    (hr : growTree fuel l todo opens next = .ok r) : r.length + opens = 2 * todo.length := by
  induction fuel generalizing l opens next todo r with
  | zero => simp [growTree] at hr
  | succ fuel ih =>
    have htotal := levelSlots_add_beyondLevel (l := l) (todo := todo)
    obtain ⟨left, rfl, ⟨hlast, rfl, rfl⟩ | ⟨deeper, hdeeper, rfl⟩⟩ := growTree_succ_ok h hr
    · rw [hlast, List.length_nil] at htotal
      omega
    · have hlen := ih h.beyondLevel hdeeper
      simp only [List.length_append, nodeRun, List.length_map, List.length_range']
      omega

theorem withDummy_sorted {kind : CodeKind} {l : Nat} {syms : List (Nat × Slot)} (h : SortedFrom l syms) :
    SortedFrom l (withDummy kind syms) := by
  unfold withDummy
  split
  · simpa [SortedFrom] using h
  · exact h

theorem withDummy_length (kind : CodeKind) (syms : List (Nat × Slot)) :
    (withDummy kind syms).length = if kind = .dist ∧ syms.length = 1 then 2 else syms.length := by
  unfold withDummy
  split
  · rfl
  · rename_i hother
    rw [if_neg]
    rintro ⟨rfl, hone⟩
    obtain ⟨p, rfl⟩ := List.length_eq_one_iff.mp hone
    exact hother p.1 p.2 rfl rfl

theorem treeOfSymbols_of_buildTree {lens : List Nat} {kind : CodeKind} {t : Tree} (h : buildTree lens kind = .ok (some t)) :
    treeOfSymbols (withDummy kind (codedSymbols lens)) = .ok t := by
  rw [buildTree] at h
  split at h
  · simp at h
  · generalize treeOfSymbols (withDummy kind (codedSymbols lens)) = built at h ⊢
    cases built with
    | error c => simp [Except.map] at h
    | ok t' => simpa [Except.map] using h

/-- Settles O14: fullness is an invariant of the builder's levels, and the size is counted level by level. -/
theorem builtTreeIsFull : Obligations.BuiltTreeIsFull := by
  intro lens kind t hlens halphabet hbuild
  have hsize : t.length + 2 = 2 * (withDummy kind (codedSymbols lens)).length :=
    growTree_length (withDummy_sorted (codedSymbols_sorted lens)) (treeOfSymbols_of_buildTree hbuild)
  rw [withDummy_length, codedSymbols_length hlens] at hsize
  exact ⟨buildTree_full halphabet hbuild, by omega⟩

end Sys2Proof.Machine
end

section
/-! The built tree as the canonical code (R182, R184, R193). A word of `m` bits below the `i`-th open slot of a level is, read as a
number, one of the `2 ^ m` words below that slot, which follow those below the slots left of it. Level by level the words below
the symbols already placed come first, then those of the symbols of the level, in order: that is RFC 1951's count. -/

namespace Sys2Proof.Machine

/-! ## Words as numbers -/

/-- A word as the number whose most significant bit is read first (R193). -/
def wordValue (w : List Bool) : Nat := packBits w.reverse

theorem wordValue_cons (b : Bool) (w : List Bool) : wordValue (b :: w) = 2 ^ w.length * b.toNat + wordValue w := by
  simp [wordValue, packBits_append, packBits]
  omega

theorem wordValue_lt (w : List Bool) : wordValue w < 2 ^ w.length := by
  simpa [wordValue] using packBits_lt w.reverse

theorem bitsMsbFirst_eq_reverse (n v : Nat) : bitsMsbFirst n v = (bitsLsbFirst n v).reverse := by
  refine List.ext_getElem (by simp [bitsMsbFirst]) fun j h₁ h₂ => ?_
  simp [bitsMsbFirst, bitsLsbFirst]

/-- A word is the one of its length that stands for its value. -/
theorem bitsMsbFirst_eq_iff {w : List Bool} {v : Nat} (hv : v < 2 ^ w.length) :
    bitsMsbFirst w.length v = w ↔ v = wordValue w := by
  rw [bitsMsbFirst_eq_reverse, List.reverse_eq_iff]
  constructor
  · intro h
    rw [wordValue, ← h, packBits_bitsLsbFirst, Nat.mod_eq_of_lt hv]
  · rintro rfl
    simpa [wordValue] using bitsLsbFirst_packBits w.reverse

/-! ## The first word of each length (R193) -/

/-- The first word of length `m` below the open slots of depth `l`, as a number: the words below the symbols of the lengths from
`l` on come before it. -/
def firstWord (todo : List (Nat × Slot)) (l : Nat) : Nat → Nat
  | 0 => 0
  | m + 1 => 2 * (firstWord todo l m + (levelSlots todo (l + m)).length)

section
variable {todo : List (Nat × Slot)} {l : Nat}

theorem firstWord_succ (todo : List (Nat × Slot)) (l m : Nat) :
    firstWord todo l (m + 1) = 2 ^ (m + 1) * (levelSlots todo l).length + firstWord (beyondLevel todo l) (l + 1) m := by
  induction m with
  | zero => simp [firstWord]
  | succ m ih =>
    have hsame : levelSlots (beyondLevel todo l) (l + 1 + m) = levelSlots todo (l + (m + 1)) := by
      rw [levelSlots_beyondLevel (by omega)]
      congr 1
      omega
    rw [firstWord, ih, firstWord, hsame]
    ring

theorem firstWord_nil (l m : Nat) : firstWord [] l m = 0 := by
  induction m with
  | zero => rfl
  | succ m ih => simp [firstWord, ih, levelSlots]

theorem levelSlots_below (todo : List (Nat × Slot)) (l m : Nat) :
    levelSlots (beyondLevel todo l) (l + 1 + m) = levelSlots todo (l + (m + 1)) := by
  rw [levelSlots_beyondLevel (by omega), Nat.add_assoc, Nat.add_comm 1 m]

/-- A successful build never has more words of a length than there is room for (R185). -/
theorem growTree_words {fuel opens next : Nat} {r : Tree} (h : SortedFrom l todo) (hr : growTree fuel l todo opens next = .ok r)
    (m : Nat) : firstWord todo l m + (levelSlots todo (l + m)).length ≤ opens * 2 ^ m := by
  induction fuel generalizing l opens next todo r m with
  | zero => simp [growTree] at hr
  | succ fuel ih =>
    obtain ⟨left, rfl, hlevel⟩ := growTree_succ_ok h hr
    cases m with
    | zero => simp [firstWord]
    | succ m =>
      have hbelow : firstWord (beyondLevel todo l) (l + 1) m + (levelSlots (beyondLevel todo l) (l + 1 + m)).length ≤
          2 * left * 2 ^ m := by
        rcases hlevel with ⟨hlast, -, -⟩ | ⟨deeper, hdeeper, -⟩
        · simp [hlast, firstWord_nil, levelSlots]
        · exact ih h.beyondLevel hdeeper m
      rw [levelSlots_below] at hbelow
      rw [firstWord_succ]
      calc _ ≤ 2 ^ (m + 1) * (levelSlots todo l).length + 2 * left * 2 ^ m := by omega
        _ = ((levelSlots todo l).length + left) * 2 ^ (m + 1) := by ring

/-- No word goes on below a symbol: the words of its length on are all counted before those of the lengths to come. -/
theorem firstWord_beyond_symbol {i : Nat} (hi : i < (levelSlots todo l).length) (b : Bool) (w : List Bool) (j : Nat) :
    i * 2 ^ (b :: w).length + wordValue (b :: w) < firstWord todo l (b :: w).length + j := by
  have hvalue := wordValue_lt (b :: w)
  rw [List.length_cons] at hvalue ⊢
  rw [firstWord_succ]
  calc _ < (i + 1) * 2 ^ (w.length + 1) := by rw [Nat.add_mul, Nat.one_mul]; omega
    _ ≤ (levelSlots todo l).length * 2 ^ (w.length + 1) := Nat.mul_le_mul_right _ hi
    _ ≤ _ := by rw [Nat.mul_comm]; omega

end

/-! ## Following a word from a slot (R182, R190) -/

/-- The slot the bits lead to from the slot of index `i`. -/
def Tree.followAt (t : Tree) (i : Nat) (w : List Bool) : Option Slot :=
  match t[i]? with
  | some (.node k) => t.follow k w
  | some slot => if w = [] then some slot else none
  | none => none

theorem Tree.follow_cons (t : Tree) (k : Nat) (b : Bool) (w : List Bool) :
    t.follow k (b :: w) = t.followAt (2 * k + b.toNat) w := by
  rcases h : t[2 * k + b.toNat]? with _ | _ | _ | _ | _ <;> simp [Tree.follow, Tree.followAt, Tree.child, h]

theorem Tree.followAt_node {t : Tree} {i k : Nat} (h : t[i]? = some (.node k)) (w : List Bool) :
    t.followAt i w = t.follow k w := by
  rw [Tree.followAt, h]

theorem Tree.followAt_leaf {t : Tree} {i : Nat} {slot : Slot} (h : t[i]? = some slot) (hslot : ∀ k, slot ≠ .node k)
    (w : List Bool) : t.followAt i w = if w = [] then some slot else none := by
  rw [Tree.followAt, h]
  cases slot with
  | node k => exact absurd rfl (hslot k)
  | opn | leaf s | dummy => rfl

/-- A word leads to the symbol `s` by the count of the words, from the `i`-th open slot of depth `l` on. -/
def CountedTo (todo : List (Nat × Slot)) (l i : Nat) (w : List Bool) (s : Nat) : Prop :=
  ∃ j, (levelSlots todo (l + w.length))[j]? = some (.leaf s) ∧ firstWord todo l w.length + j = i * 2 ^ w.length + wordValue w

section
variable {todo : List (Nat × Slot)} {l : Nat}

/-- From a symbol's slot no bit leads on, and no word counts. -/
theorem Tree.followAt_symbol {t : Tree} {i index : Nat} (hsym : ∀ p ∈ todo, ∀ k, p.2 ≠ .node k)
    (hi : i < (levelSlots todo l).length) (hslot : t[index]? = some (levelSlots todo l)[i]) (w : List Bool) (s : Nat) :
    t.followAt index w = some (.leaf s) ↔ CountedTo todo l i w s := by
  have hleaf : ∀ k, (levelSlots todo l)[i] ≠ .node k := by
    obtain ⟨p, hp, hpi⟩ := List.mem_map.mp (List.getElem_mem hi)
    rw [← hpi]
    exact hsym p (List.mem_of_mem_filter hp)
  rw [Tree.followAt_leaf hslot hleaf]
  cases w with
  | nil => simp [CountedTo, firstWord, wordValue, packBits, List.getElem?_eq_getElem hi]
  | cons b w =>
    simp only [List.cons_ne_nil, if_false, reduceCtorEq, false_iff]
    rintro ⟨j, -, hsum⟩
    have := firstWord_beyond_symbol hi b w j
    omega

/-- Behind the symbols of a level the word that ends at a slot is no symbol's. -/
theorem not_countedTo_nil (d s : Nat) : ¬CountedTo todo l ((levelSlots todo l).length + d) [] s := by
  simp [CountedTo, firstWord, wordValue, packBits]

/-- A word goes on behind its first bit as one counted from the next depth on, below the slots that the symbols have left. -/
theorem countedTo_cons (d : Nat) (b : Bool) (w : List Bool) (s : Nat) :
    CountedTo todo l ((levelSlots todo l).length + d) (b :: w) s ↔
      CountedTo (beyondLevel todo l) (l + 1) (2 * d + b.toNat) w s := by
  rw [CountedTo, CountedTo, List.length_cons, levelSlots_below, firstWord_succ, wordValue_cons, Nat.pow_succ]
  refine exists_congr fun j => and_congr_right fun _ => ?_
  constructor <;> intro hsum <;> linarith

end

/-- The words that lead from an open slot of a level to a symbol are those that count. The array's part before the level's slots
is `pre`. -/
theorem growTree_follow {fuel l opens next : Nat} {todo : List (Nat × Slot)} {pre r : Tree} (h : SortedFrom l todo)
    (hsym : ∀ p ∈ todo, ∀ k, p.2 ≠ .node k) (hr : growTree fuel l todo opens next = .ok r) (hpre : pre.length + opens = 2 * next)
    {i : Nat} (hi : i < opens) (w : List Bool) (s : Nat) :
    (pre ++ r).followAt (pre.length + i) w = some (.leaf s) ↔ CountedTo todo l i w s := by
  induction fuel generalizing l opens next todo pre r i w with
  | zero => simp [growTree] at hr
  | succ fuel ih =>
    obtain ⟨left, rfl, hlevel⟩ := growTree_succ_ok h hr
    by_cases hsymbol : i < (levelSlots todo l).length
    · refine Tree.followAt_symbol hsym hsymbol ?_ w s
      rw [List.getElem?_append_right (by omega), Nat.add_sub_cancel_left]
      rcases hlevel with ⟨-, -, rfl⟩ | ⟨deeper, -, rfl⟩
      · exact List.getElem?_eq_getElem hsymbol
      · rw [List.append_assoc, List.getElem?_append_left hsymbol, List.getElem?_eq_getElem hsymbol]
    obtain ⟨d, rfl⟩ := Nat.exists_eq_add_of_le (Nat.le_of_not_lt hsymbol)
    obtain ⟨-, rfl, -⟩ | ⟨deeper, hdeeper, rfl⟩ := hlevel
    · omega
    have hslot : (pre ++ (levelSlots todo l ++ nodeRun next left ++ deeper))[pre.length + ((levelSlots todo l).length + d)]? =
        some (.node (next + d)) := by
      rw [List.getElem?_append_right (by omega), Nat.add_sub_cancel_left, List.append_assoc,
        List.getElem?_append_right (by omega), Nat.add_sub_cancel_left, nodeRun_append_inside (by omega)]
    rw [Tree.followAt_node hslot]
    cases w with
    | nil => simpa [Tree.follow] using not_countedTo_nil d s
    | cons b w =>
      have hlen : (pre ++ levelSlots todo l ++ nodeRun next left).length = 2 * next := by
        simp [nodeRun]
        omega
      have hb : b.toNat ≤ 1 := Bool.toNat_le b
      have hbelow := ih (pre := pre ++ levelSlots todo l ++ nodeRun next left) h.beyondLevel
        (fun p hp => hsym p (List.mem_of_mem_filter hp)) hdeeper (by rw [hlen]; omega) (i := 2 * d + b.toNat) (by omega) w
      rw [hlen, List.append_assoc, List.append_assoc, ← Nat.add_assoc, ← Nat.mul_add] at hbelow
      rw [Tree.follow_cons, List.append_assoc, hbelow, countedTo_cons]

/-! ## The symbols' places (R183, R193) -/

section
variable {lens : List Nat} {l : Nat}

/-- Among the symbols of length `l` a symbol has as many before it as there are lengths `l` before its own. -/
theorem zipIdx_filter_getElem? (lens : List Nat) (l k j s : Nat) :
    (((lens.zipIdx k).filter fun p => p.1 == l).map Prod.snd)[j]? = some (k + s) ↔
      lens[s]? = some l ∧ (lens.take s).count l = j := by
  induction lens generalizing k j s with
  | nil => simp
  | cons x lens ih =>
    have hlater : ∀ j : Nat, (((lens.zipIdx (k + 1)).filter fun p => p.1 == l).map Prod.snd)[j]? ≠ some k := by
      intro j hj
      obtain ⟨p, hp, hpk⟩ := List.mem_map.mp (List.mem_of_getElem? hj)
      have := List.le_snd_of_mem_zipIdx (List.mem_of_mem_filter hp)
      omega
    by_cases hx : x = l
    · subst hx
      rcases s with _ | s <;> rcases j with _ | j
      · simp
      · simpa using hlater j
      · simp
      · rw [← Nat.add_assoc, Nat.add_right_comm]
        simpa using ih (k + 1) j s
    · rcases s with _ | s
      · simpa [hx] using hlater j
      · rw [← Nat.add_assoc, Nat.add_right_comm]
        simpa [hx] using ih (k + 1) j s

/-- Which symbol is the `j`-th of its length. -/
theorem levelSlots_codedSymbols_getElem? (hlens : ∀ l ∈ lens, l ≤ 15) (hlo : 1 ≤ l) (j s : Nat) :
    (levelSlots (codedSymbols lens) l)[j]? = some (.leaf s) ↔ lens[s]? = some l ∧ (lens.take s).count l = j := by
  by_cases hhi : l ≤ 15
  · rw [levelSlots_codedSymbols hlo hhi, ← zipIdx_filter_getElem? lens l 0 j s, symbolsOfLength]
    simp
  · constructor
    · intro hj
      obtain ⟨p, hp, -⟩ := List.mem_map.mp (List.mem_of_getElem? hj)
      obtain ⟨hmem, hpl⟩ := List.mem_filter.mp hp
      have := codedSymbols_le hmem
      have : p.1 = l := by simpa using hpl
      omega
    · rintro ⟨hs, -⟩
      exact absurd (hlens l (List.mem_of_getElem? hs)) hhi

theorem codedSymbols_leaf {p : Nat × Slot} (h : p ∈ codedSymbols lens) : ∃ s, p.2 = .leaf s := by
  obtain ⟨l, -, hp⟩ := List.mem_flatMap.mp h
  obtain ⟨q, -, rfl⟩ := List.mem_map.mp hp
  exact ⟨q.2, rfl⟩

/-- DUMMY is the last of the symbols it joins, and none is longer (R186). -/
theorem withDummy_eq_append (kind : CodeKind) (syms : List (Nat × Slot)) :
    ∃ extra, withDummy kind syms = syms ++ extra ∧ ∀ p ∈ extra, p.2 = .dummy ∧ ∀ q ∈ syms, q.1 ≤ p.1 := by
  unfold withDummy
  split
  · exact ⟨[(_, .dummy)], rfl, by simp⟩
  · exact ⟨[], by simp, by simp⟩

theorem levelSlots_append (syms extra : List (Nat × Slot)) (l : Nat) :
    levelSlots (syms ++ extra) l = levelSlots syms l ++ levelSlots extra l := by
  simp [levelSlots]

/-- The first code word of a length, where the symbols of the lengths below it are those of `lens` (R193). -/
theorem firstCode_succ {syms : List (Nat × Slot)} {m : Nat}
    (h : ∀ k, 1 ≤ k → k ≤ m → (levelSlots syms k).length = lens.count k) : firstCode lens (m + 1) = firstWord syms 1 m := by
  induction m with
  | zero => simp [firstCode, firstWord, lengthCount]
  | succ m ih =>
    rw [firstCode, ih fun k hlo hhi => h k hlo (by omega), firstWord, Nat.add_comm 1 m, h (m + 1) (by omega) (le_refl _),
      lengthCount, if_neg (by omega)]

theorem codeWord_eq_some_iff {s : Nat} {w : List Bool} :
    codeWord lens s = some w ↔ w ≠ [] ∧ lens[s]? = some w.length ∧
      bitsMsbFirst w.length (firstCode lens w.length + (lens.take s).count w.length) = w := by
  have hlength : ∀ n v, (bitsMsbFirst n v).length = n := fun n v => by simp [bitsMsbFirst]
  unfold codeWord
  split
  · rename_i hs
    simp [hs]
  · rename_i hs
    simp only [hs, Option.some.injEq, reduceCtorEq, false_iff, not_and]
    intro hw hlen
    exact absurd (List.length_eq_zero_iff.mp hlen.symm) hw
  · rename_i l hpos hs
    rw [hs, Option.some.injEq, Option.some.injEq]
    constructor
    · intro hw
      obtain rfl : w.length = l := by rw [← hw, hlength]
      exact ⟨fun hnil => hpos (by simp [hnil]), rfl, hw⟩
    · rintro ⟨-, rfl, hw⟩
      exact hw

end

/-! ## BuildTree -/

/-- The symbols of a build below a coded symbol's length are those of the lengths, for DUMMY is as long as the symbol it joins. -/
theorem levelSlots_withDummy_length {lens : List Nat} {kind : CodeKind} {s l k : Nat} (hlens : ∀ l ∈ lens, l ≤ 15)
    (hs : lens[s]? = some l) (hlo : 1 ≤ k) (hhi : k < l) :
    (levelSlots (withDummy kind (codedSymbols lens)) k).length = lens.count k := by
  obtain ⟨extra, hextra, hdummy⟩ := withDummy_eq_append kind (codedSymbols lens)
  obtain ⟨p, hp, -⟩ := List.mem_map.mp
    (List.mem_of_getElem? ((levelSlots_codedSymbols_getElem? hlens (by omega) _ s).mpr ⟨hs, rfl⟩))
  obtain ⟨hmem, hpl⟩ := List.mem_filter.mp hp
  have hnone : levelSlots extra k = [] := by
    refine List.map_eq_nil_iff.mpr (List.filter_eq_nil_iff.mpr fun q hq => ?_)
    have := (hdummy q hq).2 p hmem
    have : p.1 = l := by simpa using hpl
    simp
    omega
  have := hlens l (List.mem_of_getElem? hs)
  rw [hextra, levelSlots_append, hnone, List.append_nil, levelSlots_codedSymbols hlo (by omega), List.length_map,
    symbolsOfLength_length]

/-- The symbols' places in a build, DUMMY or not. -/
theorem levelSlots_withDummy_getElem? {lens : List Nat} {kind : CodeKind} {l : Nat} (hlens : ∀ l ∈ lens, l ≤ 15) (hlo : 1 ≤ l)
    (j s : Nat) : (levelSlots (withDummy kind (codedSymbols lens)) l)[j]? = some (.leaf s) ↔
      lens[s]? = some l ∧ (lens.take s).count l = j := by
  obtain ⟨extra, hextra, hdummy⟩ := withDummy_eq_append kind (codedSymbols lens)
  have hextra' : ∀ j : Nat, (levelSlots extra l)[j]? ≠ some (.leaf s) := by
    intro j hj
    obtain ⟨p, hp, hps⟩ := List.mem_map.mp (List.mem_of_getElem? hj)
    rw [(hdummy p (List.mem_of_mem_filter hp)).1] at hps
    simp at hps
  rw [← levelSlots_codedSymbols_getElem? hlens hlo, hextra, levelSlots_append, List.getElem?_append]
  split
  · rfl
  · rename_i hbeyond
    simp [hextra', List.getElem?_eq_none (Nat.le_of_not_lt hbeyond)]

theorem withDummy_ne_node {lens : List Nat} {kind : CodeKind} : ∀ p ∈ withDummy kind (codedSymbols lens), ∀ k, p.2 ≠ .node k := by
  obtain ⟨extra, hextra, hdummy⟩ := withDummy_eq_append kind (codedSymbols lens)
  rw [hextra]
  intro p hp k
  rcases List.mem_append.mp hp with hp | hp
  · obtain ⟨s, hs⟩ := codedSymbols_leaf hp
    simp [hs]
  · simp [(hdummy p hp).1]

/-- Settles O15: the words that lead from the root's slots to a symbol are the one that the count gives it. -/
theorem builtCodeIsCanonical : Obligations.BuiltCodeIsCanonical := by
  intro lens kind t hlens hbuild s w
  have hgrow : growTree Config.maxCodeLen 1 (withDummy kind (codedSymbols lens)) 2 1 = .ok t := treeOfSymbols_of_buildTree hbuild
  have hsorted : SortedFrom 1 (withDummy kind (codedSymbols lens)) := withDummy_sorted (codedSymbols_sorted lens)
  cases w with
  | nil => simp [Tree.follow, codeWord_eq_some_iff]
  | cons b w =>
    have hb : b.toNat < 2 := by cases b <;> decide
    have hfollow := growTree_follow (pre := []) hsorted withDummy_ne_node hgrow rfl hb w s
    simp only [CountedTo, List.nil_append, List.length_nil, Nat.zero_add, Nat.add_comm 1 w.length,
      levelSlots_withDummy_getElem? hlens (Nat.le_add_left 1 w.length)] at hfollow
    have hvalue : b.toNat * 2 ^ w.length + wordValue w = wordValue (b :: w) := by rw [wordValue_cons, Nat.mul_comm]
    rw [Tree.follow_cons, Nat.mul_zero, Nat.zero_add, hfollow, codeWord_eq_some_iff, hvalue, List.length_cons]
    simp only [and_assoc, exists_and_left, exists_eq_left', ne_eq, reduceCtorEq, not_false_eq_true, true_and]
    refine and_congr_right fun hs => ?_
    have hfirst : firstCode lens (w.length + 1) = firstWord (withDummy kind (codedSymbols lens)) 1 w.length :=
      firstCode_succ fun k hlo hhi => levelSlots_withDummy_length hlens hs hlo (by omega)
    have hplace := (levelSlots_withDummy_getElem? (kind := kind) hlens (Nat.le_add_left 1 w.length) _ s).mpr ⟨hs, rfl⟩
    have hroom := growTree_words hsorted hgrow w.length
    rw [Nat.add_comm 1 w.length, ← Nat.pow_succ'] at hroom
    have hlt := (List.getElem?_eq_some_iff.mp hplace).1
    rw [hfirst]
    exact (bitsMsbFirst_eq_iff (w := b :: w) (by rw [List.length_cons]; omega)).symm

end Sys2Proof.Machine
end

section
/-! Block headers and stored blocks (R211 to R218): what each of their elements leaves, and a run of stored bytes as a copy of the
stream. -/

namespace Sys2Proof.Machine

/-- Settles O20: each header's meaning, with FINAL's new value as the two bits' disjunction. -/
theorem blockHeadersRun : Obligations.BlockHeadersRun := by
  intro f s
  have hfinal : finalAfter f s.final = (s.final || f) := Bool.or_comm f s.final
  rw [← hfinal]
  exact ⟨rfl, rfl, rfl, rfl⟩

/-- Settles O21: the complement is the exclusive or with sixteen ones. -/
theorem storedHeaderChecksComplement : Obligations.StoredHeaderChecksComplement := by
  intro len nlen s
  have hcomplement : len ^^^ 0xFFFF#16 = ~~~len := BitVec.xor_allOnes
  rw [exec, execStoredHeader, hcomplement]
  exact ⟨fun h => if_pos h, fun h => if_neg h⟩

/-! ## A stored byte (R217, R218) -/

/-- The state behind a stored byte: the byte is emitted and counted off, and the last one ends the block. -/
def State.behindStoredByte (b : Byte) (s : State) : State :=
  { emit b s with storedRem := s.storedRem - 1#16, mode := if s.storedRem = 1#16 then .idle else s.mode }

theorem exec_storedByte (b : Byte) (s : State) : exec (.storedByte b) s = .next (s.behindStoredByte b) := rfl

section
variable {s : State} (b : Byte)

/-- STORED_REM counts down while bytes are left (R217). -/
theorem storedRem_sub_one (h : 1 ≤ s.storedRem.toNat) : (s.storedRem - 1#16).toNat = s.storedRem.toNat - 1 :=
  BitVec.toNat_sub_of_le h

theorem behindStoredByte_last (h : s.storedRem.toNat = 1) :
    s.behindStoredByte b = { emitAll [b] s with storedRem := 0#16, mode := .idle } := by
  have hone : s.storedRem = 1#16 := BitVec.eq_of_toNat_eq h
  rw [State.behindStoredByte, if_pos hone, hone]
  rfl

theorem behindStoredByte_more (h : 1 < s.storedRem.toNat) :
    s.behindStoredByte b = { emitAll [b] s with storedRem := BitVec.ofNat 16 (s.storedRem.toNat - 1) } := by
  have hmore : s.storedRem ≠ 1#16 := fun hone => by simp [hone] at h
  have hmode : (emitAll [b] s).mode = s.mode := emit_mode b s
  rw [State.behindStoredByte, if_neg hmore, ← storedRem_sub_one (Nat.le_of_lt h), BitVec.ofNat_toNat, BitVec.setWidth_eq, ← hmode]
  rfl

end

/-- Settles O22: the last stored byte, the others, and a literal. -/
theorem storedBytesAndLiteralsEmit : Obligations.StoredBytesAndLiteralsEmit := by
  intro b s
  rw [exec_storedByte]
  exact ⟨fun h => by rw [behindStoredByte_last b h], fun h => by rw [behindStoredByte_more b h], rfl⟩

/-! ## A step in a stored block -/

@[simp] theorem settle_storedRem (s : State) : (settle s).storedRem = s.storedRem := by
  rcases settle_cases s with ⟨-, -, h⟩ | ⟨-, h⟩ <;> rw [h]; rfl

/-- READ's loop test goes on inside a stored block while the response has room (R300). -/
theorem settle_of_stored {s : State} (hmode : s.mode = .stored) (hroom : 0 < s.room) : settle s = s := by
  have heos : s.atEos = false := by simp [State.atEos, hmode]
  rcases settle_cases s with ⟨-, hdone, -⟩ | ⟨-, h⟩
  · simp [heos, Nat.ne_of_gt hroom] at hdone
  · exact h

/-- A stored byte's value decodes to it (R217). -/
theorem decode_storedByte_toNat (b : Byte) : decode .storedByte b.toNat = .ok (.storedByte b) := by
  simpa using decode_encode (i := .storedByte b) rfl

/-- The eight bits ahead are a byte's (R12, R217). -/
theorem exists_byteBits {bits : List Bool} (h : 8 ≤ bits.length) : ∃ b, bits.take 8 = byteBits b := by
  have hlen : (bits.take 8).length = 8 := List.length_take_of_le h
  have hlt := packBits_lt (bits.take 8)
  rw [hlen] at hlt
  refine ⟨BitVec.ofNat 8 (packBits (bits.take 8)), ?_⟩
  have hbits := bitsLsbFirst_packBits (bits.take 8)
  rw [byteBits, BitVec.toNat_ofNat, Nat.mod_eq_of_lt hlt]
  rw [hlen] at hbits
  exact hbits.symm

/-- A step in a stored block takes the next byte of the stream and runs it, wherever the byte comes from (R157, R158, R217). -/
theorem step_of_stored {s : State} (h : Inv s) (hphase : s.phase = .step) (hmode : s.mode = .stored)
    (hlen : 8 ≤ s.input.ahead.length) :
    ∃ b inp, s.input.ahead = byteBits b ++ inp.ahead ∧
      step s = .next (settle (State.behindStoredByte b { s with input := inp })) := by
  have hf : expectedFormat s = some .storedByte := by simp [expectedFormat, hphase, hmode]
  obtain ⟨inp, hstep, ha⟩ := fieldStepReadsStreamBits s .storedByte h hf (.inr (.inr (.inl rfl))) hlen
  obtain ⟨b, hb⟩ := exists_byteBits hlen
  have hvalue : packBits (s.input.ahead.take Format.storedByte.width) = b.toNat := by
    rw [Format.width, hb, byteBits, packBits_bitsLsbFirst, Nat.mod_eq_of_lt b.isLt]
  refine ⟨b, inp, ?_, ?_⟩
  · rw [ha, ← hb]
    exact (List.take_append_drop 8 s.input.ahead).symm
  · rw [hstep, hvalue, runValue_of_decode (decode_storedByte_toNat b), exec_storedByte]
    rfl

/-! ## A run of stored bytes -/

/-- A READ in progress in a stored block in which `k` bytes more are to come and have room. -/
structure StoredRun (k : Nat) (s : State) : Prop where
  inv : Inv s
  phase : s.phase = .step
  mode : s.mode = .stored
  count : k ≤ s.storedRem.toNat
  room : k ≤ s.room

/-- From `s` to `t` the next bytes of the stream have left the decoder as they are, and are counted off. -/
structure Copied (bs : List Byte) (s t : State) : Prop where
  ahead : s.input.ahead = streamBits bs ++ t.input.ahead
  emitted : emittedBytes t = emittedBytes s ++ bs
  count : t.storedRem.toNat + bs.length = s.storedRem.toNat

theorem Copied.refl (s : State) : Copied [] s s := ⟨rfl, (List.append_nil _).symm, rfl⟩

theorem Copied.trans {bs cs : List Byte} {s t u : State} (h : Copied bs s t) (h' : Copied cs t u) : Copied (bs ++ cs) s u := by
  refine ⟨?_, ?_, ?_⟩
  · rw [h.ahead, h'.ahead, streamBits_append, List.append_assoc]
  · rw [h'.emitted, h.emitted, List.append_assoc]
  · rw [List.length_append, ← h.count, ← h'.count, Nat.add_assoc, Nat.add_comm cs.length]

/-- One step copies one byte, and the run goes on behind it. -/
theorem StoredRun.step {k : Nat} {s : State} (h : StoredRun (k + 1) s) (hlen : 8 ≤ s.input.ahead.length) :
    ∃ t b, Machine.step s = .next t ∧ Copied [b] s t ∧ (k ≠ 0 → StoredRun k t) := by
  obtain ⟨hinv, hphase, hmode, hcount, hroom⟩ := h
  obtain ⟨b, inp, hahead, hstep⟩ := step_of_stored hinv hphase hmode hlen
  have hemitting : Emitting { s with input := inp } :=
    State.OutputOk.emitting (s := { s with input := inp })
      (hinv.outputOk (by simp [hmode, Mode.decodes]) (by simp [hphase])) (hinv.stage.emptyInStep (by simp [hphase]))
  have hinv' := stepKeepsInvariant s _ hinv hstep
  have hrem : (s.storedRem - 1#16).toNat = s.storedRem.toNat - 1 := storedRem_sub_one (by omega)
  set u := State.behindStoredByte b { s with input := inp }
  have hinput : u.input = inp := emit_input b _
  have hurem : u.storedRem.toNat = s.storedRem.toNat - 1 := hrem
  refine ⟨settle u, b, hstep, ⟨?_, ?_, ?_⟩, fun hk => ?_⟩
  · simp [hinput, hahead]
  · rw [settle_emittedBytes]
    exact emit_emittedBytes hemitting b
  · rw [settle_storedRem, hurem, List.length_singleton]
    omega
  · have hmore : s.storedRem ≠ 1#16 := fun hone => hk (by simpa [hone] using hcount)
    have humode : u.mode = .stored := (if_neg hmore).trans hmode
    have huroom : u.room = s.room - 1 := emit_room b _
    have hsettle : settle u = u := settle_of_stored humode (by omega)
    rw [hsettle] at hinv' ⊢
    exact ⟨hinv', (emit_phase b _).trans hphase, humode, by omega, by omega⟩

/-- A run of one step more goes on from where that step leads. -/
theorem run_succ {s t : State} (k : Nat) (h : Machine.step s = .next t) :
    Host.Core.run core (k + 1) s = Host.Core.run core k t := by
  simp [Host.Core.run, core, h]

/-- `k` steps copy `k` bytes. -/
theorem StoredRun.run {k : Nat} {s : State} (h : k ≠ 0 → StoredRun k s) (hlen : 8 * k ≤ s.input.ahead.length) :
    ∃ t bs, Host.Core.run core k s = .next t ∧ bs.length = k ∧ Copied bs s t := by
  induction k generalizing s with
  | zero => exact ⟨s, [], rfl, rfl, .refl s⟩
  | succ k ih =>
    obtain ⟨t, b, hstep, hcopied, hgoes⟩ := (h (Nat.succ_ne_zero k)).step (by omega)
    have hahead := congrArg List.length hcopied.ahead
    rw [List.length_append, streamBits_length, List.length_singleton] at hahead
    obtain ⟨u, bs, hrun, hbs, hcopied'⟩ := ih hgoes (by omega)
    exact ⟨u, b :: bs, (run_succ k hstep).trans hrun, by rw [List.length_cons, hbs], hcopied.trans hcopied'⟩

/-- Settles O23: each step copies the next byte, and the run goes on while bytes are to come. -/
theorem storedRunCopiesTheStream : Obligations.StoredRunCopiesTheStream := by
  intro k s hinv hphase hmode hcount hroom hlen
  obtain ⟨t, bs, hrun, hbs, hcopied⟩ := StoredRun.run (fun _ => ⟨hinv, hphase, hmode, hcount, hroom⟩) hlen
  have hbits : (streamBits bs).length = 8 * k := by rw [streamBits_length, hbs]
  refine ⟨t, bs, hrun, ?_, hbs, hcopied.emitted, ?_, by rw [← hbs]; exact hcopied.count⟩
  · rw [hcopied.ahead, List.take_left' hbits]
  · rw [hcopied.ahead, List.drop_left' hbits]

end Sys2Proof.Machine
end

section
/-! Reads whose bits are ahead, and reads that the source cannot fill (R61, R110, R155, R159, R221): an operand's value and the
code-length-code lengths as functions of the bits ahead, and what a read leaves where the input ends inside it. -/

namespace Sys2Proof.Machine

/-! ## An operand (R110) -/

/-- An operand with its extra bits ahead is its base plus the number they form. -/
theorem readOperand_value {cap : Nat} {o : Operand} {inp : Input} (ho : o.extra ≤ 16) (h : inp.Ready cap)
    (hlen : o.extra ≤ inp.ahead.length) :
    ∃ inp', readOperand cap o inp = .ok (o.base + packBits (inp.ahead.take o.extra)) inp' ∧
      inp'.ahead = inp.ahead.drop o.extra ∧ inp'.Ready cap := by
  obtain ⟨inp', hr, ha, hready⟩ := readBits_readsField ho inp h hlen
  exact ⟨inp', by rw [readOperand, hr, InRes.andThen_of_ok], ha, hready⟩

/-! ## The code-length-code lengths (R116, R221) -/

/-- The lengths `cl` with the fields of 3 bits put in, one for each symbol of `order`. -/
def putFields : List Nat → List Bool → List Nat → List Nat
  | [], _, cl => cl
  | s :: order, bits, cl => putFields order (bits.drop 3) (cl.set s (packBits (bits.take 3)))

theorem readClLengths_value {cap : Nat} (order cl : List Nat) {inp : Input} (h : inp.Ready cap)
    (hlen : 3 * order.length ≤ inp.ahead.length) :
    ∃ inp', readClLengths cap order cl inp = .ok (putFields order inp.ahead cl) inp' ∧
      inp'.ahead = inp.ahead.drop (3 * order.length) ∧ inp'.Ready cap := by
  induction order generalizing cl inp with
  | nil => exact ⟨inp, rfl, rfl, h⟩
  | cons s order ih =>
    rw [List.length_cons] at hlen ⊢
    obtain ⟨inp₁, hr₁, ha₁, hready₁⟩ := readBits_readsField (n := 3) (by decide) inp h (by omega)
    obtain ⟨inp₂, hr₂, ha₂, hready₂⟩ :=
      ih (cl.set s (packBits (inp.ahead.take 3))) hready₁ (by rw [ha₁, List.length_drop]; omega)
    refine ⟨inp₂, ?_, ?_, hready₂⟩
    · rw [readClLengths, hr₁, InRes.andThen_of_ok, hr₂, ha₁, putFields]
    · rw [ha₂, ha₁, List.drop_drop, Nat.mul_succ, Nat.add_comm 3]

@[simp] theorem putFields_length (order cl : List Nat) (bits : List Bool) : (putFields order bits cl).length = cl.length := by
  induction order generalizing bits cl with
  | nil => rfl
  | cons s order ih => rw [putFields, ih, List.length_set]

/-- A symbol has the field at its place in the order, or keeps its length where it has none. -/
theorem putFields_getElem? {order : List Nat} (horder : order.Nodup) (bits : List Bool) {cl : List Nat} {s : Nat}
    (hs : s < cl.length) :
    (putFields order bits cl)[s]? =
      match order.idxOf? s with
      | some j => some (packBits ((bits.drop (3 * j)).take 3))
      | none => cl[s]? := by
  induction order generalizing bits cl with
  | nil => rfl
  | cons x order ih =>
    obtain ⟨hx, horder⟩ := List.nodup_cons.mp horder
    rw [putFields, ih horder _ (by rwa [List.length_set]), List.idxOf?_cons]
    by_cases hxs : x = s
    · subst hxs
      simp [List.idxOf?_eq_none_iff.mpr hx, hs]
    · have hkept : (cl.set x (packBits (bits.take 3)))[s]? = cl[s]? := List.getElem?_set_ne hxs
      cases hplace : order.idxOf? s with
      | none => simp [hxs, hkept]
      | some j => simp [hxs, Nat.mul_succ, Nat.add_comm 3]

/-- The first `n` fields put in their symbols' places are the lengths the spec's order gives them. -/
theorem putFields_clOrder (n : Nat) (bits : List Bool) :
    putFields (clOrder.take n) bits (List.replicate CodeKind.clen.alphabet 0) = clLengthsOf n bits := by
  have horder : clOrder.Nodup := by decide
  refine List.ext_getElem? fun s => ?_
  by_cases hs : s < 19
  · have hzero : (List.replicate CodeKind.clen.alphabet 0)[s]? = some 0 := List.getElem?_replicate_of_lt hs
    rw [putFields_getElem? (horder.sublist (List.take_sublist n _)) bits (by rwa [List.length_replicate]), clLengthsOf,
      List.getElem?_map, List.getElem?_range hs, Option.map_some, hzero]
    cases (clOrder.take n).idxOf? s <;> rfl
  · rw [List.getElem?_eq_none, List.getElem?_eq_none]
    · simpa [clLengthsOf] using hs
    · simpa [CodeKind.alphabet] using hs

/-! ## Where the input ends inside a read (R155, R159) -/

/-- A read from `inp` ends as the source does, which has nothing left then. -/
def InRes.CutShort {α : Type} (inp : Input) (r : InRes α) : Prop :=
  ∃ inp', r = .ended inp.src.ending inp' ∧ inp'.src.rest = [] ∧ inp'.src.data = inp.src.data

section
variable {α β : Type} {cap : Nat} {inp inp₁ : Input}

/-- What follows a read that is cut short is not run. -/
theorem InRes.CutShort.andThen {r : InRes α} (h : r.CutShort inp) (k : α → Input → InRes β) : (r.andThen k).CutShort inp := by
  obtain ⟨inp', rfl, hrest, hdata⟩ := h
  exact ⟨inp', InRes.ended_andThen _ _ _, hrest, hdata⟩

/-- A read that is cut short behind another. -/
theorem InRes.CutShort.behind {r : InRes α} (hl : inp.Leads cap inp₁) (h : r.CutShort inp₁) : r.CutShort inp := by
  obtain ⟨inp', hr, hrest, hdata⟩ := h
  exact ⟨inp', by rw [hr, hl.ending], hrest, hdata.trans hl.data⟩

/-- Inside an element's meaning such a read ends the element (R345, R359). -/
theorem InRes.CutShort.onInput {s : State} {r : InRes α} (h : r.CutShort s.input) (k : α → State → Result) :
    ∃ inp', onInput s r k = inputEnded inp' s ∧ inp'.src.rest = [] ∧ inp'.src.data = s.input.src.data := by
  obtain ⟨inp', rfl, hrest, hdata⟩ := h
  refine ⟨inp', ?_, hrest, hdata⟩
  unfold inputEnded
  cases s.input.src.ending <;> rfl

/-- ReadBits' loop is cut short where the bits ahead are too few (R151, R155). -/
theorem fillAcc_cutShort {n fuel : Nat} (h : inp.Ready cap) (hn : n ≤ 56) (hfuel : n ≤ inp.accN + 8 * fuel)
    (hlen : inp.ahead.length < n) : (fillAcc cap n fuel inp).CutShort inp := by
  have hheld : inp.accN ≤ inp.ahead.length := by
    rw [Input.ahead_length]
    omega
  induction fuel generalizing inp with
  | zero => omega
  | succ fuel ih =>
    rw [fillAcc_succ (by omega)]
    rcases fetchByte_cases h (by omega) with ⟨inp₁, hr, hl, hready, ha, hacc, -⟩ | ⟨hlast, hr⟩
    · rw [hr, InRes.andThen_of_ok]
      refine .behind hl (ih hready (by omega) (by rwa [ha]) ?_)
      rw [Input.ahead_length]
      omega
    · have hrest : inp.src.rest = [] := by
        rw [Input.ahead_length] at hlast
        exact List.length_eq_zero_iff.mp (by omega)
      rw [hr]
      exact InRes.CutShort.andThen ⟨inp.askedInVain cap, rfl, hrest, rfl⟩ _

theorem readBits_cutShort {n : Nat} (h : inp.Ready cap) (hn : n ≤ 16) (hlen : inp.ahead.length < n) :
    (readBits cap n inp).CutShort inp :=
  (fillAcc_cutShort h (by omega) (by omega) hlen).andThen _

/-- An operand is cut short inside its extra bits (R110). -/
theorem readOperand_cutShort {o : Operand} (h : inp.Ready cap) (ho : o.extra ≤ 16) (hlen : inp.ahead.length < o.extra) :
    (readOperand cap o inp).CutShort inp :=
  (readBits_cutShort h ho hlen).andThen _

/-- The code-length-code lengths are cut short inside one of their fields (R221). -/
theorem readClLengths_cutShort (order cl : List Nat) (h : inp.Ready cap) (hlen : inp.ahead.length < 3 * order.length) :
    (readClLengths cap order cl inp).CutShort inp := by
  induction order generalizing cl inp with
  | nil => simp at hlen
  | cons s order ih =>
    by_cases hfield : 3 ≤ inp.ahead.length
    · obtain ⟨inp₁, hr, ha, -⟩ := readBits_readsField (n := 3) (by decide) inp h hfield
      obtain ⟨hl, hready, -⟩ := (readBits_reader cap (n := 3) (by decide)).ok h hr
      rw [readClLengths, hr, InRes.andThen_of_ok]
      rw [List.length_cons] at hlen
      exact .behind hl (ih _ hready (by rw [ha, List.length_drop]; omega))
    · exact (readBits_cutShort h (by decide) (by omega)).andThen _

end

end Sys2Proof.Machine
end

section
/-! Dynamic block headers (R220 to R229): the code-length code, the code-length sequence and its repeats, the codes adopted from
it, and the header that the input ends in. And a READ at the end of the stream (R292, R300). -/

namespace Sys2Proof.Machine

/-! ## The code-length code (R220 to R222) -/

theorem clOrder_take_length (hclen : BitVec 4) : (clOrder.take (hclen.toNat + 4)).length = hclen.toNat + 4 := by
  have hlt := hclen.isLt
  exact List.length_take_of_le (by simp only [clOrder, List.length_cons, List.length_nil]; omega)

/-- Settles O24: the fields put in their symbols' places are the spec's lengths, and their code is never NONE. -/
theorem dynamicHeaderBuildsClenCode : Obligations.DynamicHeaderBuildsClenCode := by
  intro hlit hdist hclen s h hlen
  have horder := clOrder_take_length hclen
  obtain ⟨inp', hr, ha, hready⟩ :=
    readClLengths_value (clOrder.take (hclen.toNat + 4)) (List.replicate CodeKind.clen.alphabet 0) h (by rwa [horder])
  rw [horder] at ha
  rw [putFields_clOrder] at hr
  refine ⟨inp', ha, hready, ?_⟩
  rw [exec, execDynamicHeader, hr, onInput_of_ok]
  cases hbuild : buildTree (clLengthsOf (hclen.toNat + 4) s.input.ahead) .clen with
  | error c => exact .inr ⟨c, rfl, rfl⟩
  | ok built =>
    obtain ⟨tree, rfl⟩ := buildTree_some (by decide) hbuild
    exact .inl ⟨tree, rfl, rfl⟩

/-! ## The code-length sequence (R223 to R227) -/

section
variable {s : State} {more : List Nat}

/-- The sequence goes on while more lengths are declared (R223). -/
theorem extendLengths_of_lt (h : s.dyn.lens.length + more.length < s.dyn.hlit + s.dyn.hdist) :
    extendLengths more s = { s with dyn := { s.dyn with lens := s.dyn.lens ++ more } } :=
  if_pos (by rwa [List.length_append])

/-- The last lengths complete it (R227). -/
theorem extendLengths_of_eq (h : s.dyn.lens.length + more.length = s.dyn.hlit + s.dyn.hdist) :
    extendLengths more s = adoptCodes (s.dyn.lens ++ more) s :=
  if_neg (by rw [List.length_append]; omega)

variable {r : Nat} (value : Nat)

/-- CheckRoom refuses a repeat that runs past the declared lengths (R227). -/
theorem repeatLength_of_gt (h : s.dyn.hlit + s.dyn.hdist < s.dyn.lens.length + r) :
    repeatLength r value s = fatal .clenOverflow .empty s :=
  if_pos h

theorem repeatLength_of_le (h : s.dyn.lens.length + r ≤ s.dyn.hlit + s.dyn.hdist) :
    repeatLength r value s = extendLengths (List.replicate r value) s :=
  if_neg (Nat.not_lt.mpr h)

end

/-- A repeat symbol in state `s`, the operand that counts its repeats and the length it repeats (R107, R224 to R226). -/
inductive Repeats (s : State) : Instr → Operand → Nat → Prop where
  | prev {v : Nat} (h : s.dyn.lens.getLast? = some v) : Repeats s .clRepeatPrev repeatPrevOperand v
  | zeroShort : Repeats s .clZeroShort zeroShortOperand 0
  | zeroLong : Repeats s .clZeroLong zeroLongOperand 0

section
variable {s : State} {i : Instr} {o : Operand} {v : Nat} (h : Repeats s i o v)
include h

/-- The three repeat symbols differ in the operand and in the length they repeat alone. -/
theorem Repeats.exec_eq :
    exec i s = onInput s (readOperand s.params.inCap o s.input) fun r t => .next (repeatLength r v t) := by
  cases h with
  | prev hlast => simp only [exec, execClRepeatPrev, hlast]
  | zeroShort => rfl
  | zeroLong => rfl

theorem Repeats.extra_le : o.extra ≤ 16 := by cases h <;> decide

end

/-- Settles O25: a repeat's count is its operand's, and CheckRoom compares the sequence's length behind it with the declared one. -/
theorem repeatSymbolsAppendRuns : Obligations.RepeatSymbolsAppendRuns := by
  refine ⟨fun s hnone => ?noPrev, fun i base extra v s hi h hlen => ?repeats⟩
  case noPrev => simp [exec, execClRepeatPrev, hnone]
  case repeats =>
    have hrepeats : Repeats s i ⟨base, extra⟩ v := by
      rcases hi with ⟨rfl, rfl, rfl, hlast⟩ | ⟨rfl, rfl, rfl, rfl⟩ | ⟨rfl, rfl, rfl, rfl⟩
      · exact .prev hlast
      · exact .zeroShort
      · exact .zeroLong
    obtain ⟨inp', hr, ha, hready⟩ := readOperand_value hrepeats.extra_le h hlen
    refine ⟨inp', ha, hready, ?_⟩
    rw [hrepeats.exec_eq, hr, onInput_of_ok]
    dsimp only
    refine ⟨fun hless => ?_, fun hmore => ?_, fun hall => ?_⟩
    · rw [repeatLength_of_le v (s := { s with input := inp' }) (Nat.le_of_lt hless),
        extendLengths_of_lt (by rwa [List.length_replicate])]
    · rw [repeatLength_of_gt v (s := { s with input := inp' }) hmore]
    · rw [repeatLength_of_le v (s := { s with input := inp' }) (Nat.le_of_eq hall),
        extendLengths_of_eq (by rwa [List.length_replicate])]

/-! ## The codes of a complete sequence (R227 to R229) -/

/-- The literal/length code's lengths, padded to its alphabet (R227). -/
theorem splitLitlen_eq (hlit : Nat) (lens : List Nat) : splitLitlen hlit lens = lens.take hlit ++ List.replicate (288 - hlit) 0 :=
  rfl

/-- In a complete sequence the lengths behind the literal/length code's are all the distance code's (R227). -/
theorem splitDist_of_complete {hlit hdist : Nat} {lens : List Nat} (h : lens.length = hlit + hdist) :
    splitDist hlit hdist lens = lens.drop hlit ++ List.replicate (32 - hdist) 0 := by
  have hall : (lens.drop hlit).length ≤ hdist := by rw [List.length_drop]; omega
  rw [splitDist, List.take_of_length_le hall]
  rfl

/-- Settles O26: one length more leaves the sequence unfinished or completes it, and the split of a complete one is the spec's. -/
theorem codeLengthsAppendedThenAdopted : Obligations.CodeLengthsAppendedThenAdopted := by
  refine ⟨fun len s h => congrArg _ (extendLengths_of_lt h), fun len s h _ _ => ⟨congrArg _ (extendLengths_of_eq h), ?_⟩⟩
  have hcomplete : (s.dyn.lens ++ [len.toNat]).length = s.dyn.hlit + s.dyn.hdist := by rwa [List.length_append]
  dsimp only
  rw [← splitLitlen_eq, ← splitDist_of_complete hcomplete]
  refine ⟨fun c hll => ?_, fun tll c hll hdl => ?_, fun tll hll hdl => ?_, fun tll td hll hdl => ?_⟩
  · simp only [adoptCodes, hll]
  · simp only [adoptCodes, hll, hdl]
  · simp only [adoptCodes, hll, hdl, Option.getD_some]
  · simp only [adoptCodes, hll, hdl, Option.getD_some]

/-! ## The input ends inside the header (R155, R159) -/

/-- Settles O60: the element's own read is cut short, and nothing behind it is run. -/
theorem dynamicHeaderCutShort : Obligations.DynamicHeaderCutShort := by
  refine ⟨fun hlit hdist hclen s h hlen => ?fields, fun i extra s hi h hlen => ?repeats⟩
  case fields =>
    rw [exec, execDynamicHeader]
    exact (readClLengths_cutShort (clOrder.take (hclen.toNat + 4)) _ h (by rwa [clOrder_take_length])).onInput _
  case repeats =>
    have hrepeats : ∃ base v, Repeats s i ⟨base, extra⟩ v := by
      rcases hi with ⟨rfl, rfl, hsome⟩ | ⟨rfl, rfl⟩ | ⟨rfl, rfl⟩
      · exact ⟨3, _, .prev (List.getLast?_eq_some_getLast hsome)⟩
      · exact ⟨3, 0, .zeroShort⟩
      · exact ⟨11, 0, .zeroLong⟩
    obtain ⟨base, v, hrepeats⟩ := hrepeats
    rw [hrepeats.exec_eq]
    exact (readOperand_cutShort h hrepeats.extra_le hlen).onInput _

/-! ## The end of the stream (R292, R300) -/

/-- The end of the stream (R292): the last block has ended, and every byte has been delivered. -/
theorem State.atEos_iff {s : State} : s.atEos = true ↔ s.mode = .idle ∧ s.final = true ∧ s.stagePos = s.stageLen := by
  simp [State.atEos, and_assoc]

/-- Nothing is staged at the end of the stream. -/
theorem Inv.staged_of_atEos {s : State} (h : Inv s) (heos : s.atEos = true) : s.stagePos = 0 ∧ s.stageLen = 0 := by
  obtain ⟨-, -, hsame⟩ := State.atEos_iff.mp heos
  have hempty := h.stage.emptyTogether hsame
  exact ⟨hsame.trans hempty, hempty⟩

/-- A READ has nothing to drain where nothing is staged (R302). -/
theorem drain_of_nothing_staged {s : State} (hpos : s.stagePos = 0) (hlen : s.stageLen = 0) : drain s = s := by
  have hs : { s with stagePos := 0, stageLen := 0 } = s := by cases s; simp_all
  obtain ⟨n, hn, hd⟩ := drain_eq s
  obtain rfl : n = 0 := by omega
  simpa [hpos, hlen, hs] using hd

/-- A READ that decodes at the end of the stream is answered EOS, whatever its count is (R292, R300, R301). -/
theorem read_of_atEos {s : State} (count : Nat) (h : Inv s) (heos : s.atEos = true) :
    afterElement (exec (.cmdRead count) s) = .next (respond .eos s) := by
  have ⟨hidle, _⟩ := State.atEos_iff.mp heos
  obtain ⟨hpos, hlen⟩ := h.staged_of_atEos heos
  rw [exec, execCmdRead_of_decodes count (by rw [hidle]; rfl), if_pos heos]
  split
  · rw [afterElement, settle_of_phase_ne (by simp)]
  · have heos' : State.atEos { s with phase := .step, rdCount := count, rdResp := [] } = true := heos
    rw [drain_of_nothing_staged (s := { s with phase := .step, rdCount := count, rdResp := [] }) hpos hlen, afterElement, settle,
      if_pos rfl, if_pos (.inr heos')]
    rfl

/-- Settles O57: the READ is answered EOS, and the response is the one change. -/
theorem endedStreamReadsNothing : Obligations.EndedStreamReadsNothing := by
  intro s w rest h hphase heos hcmds hread
  have hport : Inv { s with cmds := rest } := h.withPort rest s.responses
  rw [step_of_command hphase hcmds, runValue_of_decode (decode_read hread),
    read_of_atEos (s := { s with cmds := rest }) _ hport heos, respond_of_command hport hphase]

end Sys2Proof.Machine
end

section
/-! Literal/length and distance symbols (R251 to R260, R271): the pair's two operands, and the copy as a list of bytes emitted. -/

namespace Sys2Proof.Machine

/-! ## The copied bytes (R74, R271) -/

section
variable {dist : Nat} {s : State} (hlow : 1 ≤ dist) (hhigh : dist ≤ 32768)
include hhigh

theorem copySource_toNat : (copySource dist s).toNat = (s.winPos.toNat + (32768 - dist)) % 32768 := by
  rw [copySource, BitVec.toNat_sub, BitVec.toNat_ofNat]
  omega

include hlow

/-- Behind the copy's first byte, the last `dist` bytes of the history are what they were, one place further: where the history
starts over, the byte read next is the one just emitted. -/
theorem read_emit_copySource (hwf : s.win.wf = true) (i : Nat) :
    (emit (s.win.read (copySource dist s).toNat) s).win.read
        (((s.winPos.toNat + 1) % 32768 + (32768 - dist) + i % dist) % 32768) =
      s.win.read ((s.winPos.toNat + (32768 - dist) + (i + 1) % dist) % 32768) := by
  have hpos : s.winPos.toNat < 32768 := s.winPos.isLt
  have hi : i % dist < dist := Nat.mod_lt i hlow
  rw [emit_win]
  by_cases hover : i % dist + 1 = dist
  · have hnext : (i + 1) % dist = 0 := by rw [← Nat.mod_add_mod, hover, Nat.mod_self]
    have hat : ((s.winPos.toNat + 1) % 32768 + (32768 - dist) + i % dist) % 32768 = s.winPos.toNat := by omega
    rw [hat, Memory.read_write_same _ hwf, hnext, copySource_toNat hhigh, Nat.add_zero]
  · have hnext : (i + 1) % dist = i % dist + 1 := by rw [← Nat.mod_add_mod, Nat.mod_eq_of_lt (by omega)]
    have hsame : ((s.winPos.toNat + 1) % 32768 + (32768 - dist) + i % dist) % 32768 =
        (s.winPos.toNat + (32768 - dist) + (i + 1) % dist) % 32768 := by omega
    rw [hsame, Memory.read_write_other _ hwf (by omega)]

theorem copiedBytes_succ (hwf : s.win.wf = true) (len : Nat) :
    copiedBytes s dist (len + 1) =
      s.win.read (copySource dist s).toNat :: copiedBytes (emit (s.win.read (copySource dist s).toNat) s) dist len := by
  rw [copiedBytes, List.range_succ_eq_map, List.map_cons, List.map_map, Nat.zero_mod, Nat.add_zero, ← copySource_toNat hhigh]
  refine congrArg _ (List.map_congr_left fun i _ => ?_)
  rw [emit_winPos_toNat, read_emit_copySource hlow hhigh hwf]
  rfl

/-- Copy emits bytes that the window before it determines, although it reads some that it has itself emitted (R271). -/
theorem copy_eq_emitAll (hwf : s.win.wf = true) (len : Nat) : copy dist len s = emitAll (copiedBytes s dist len) s := by
  induction len generalizing s with
  | zero => rfl
  | succ len ih => rw [copy_succ, ih (emit_wf _ hwf), copiedBytes_succ hlow hhigh hwf, emitAll_cons]

end

/-! ## Distances (R113, R253, R257) -/

/-- Distances are 1 to 32768, the window's size (R136). -/
theorem distanceRows_range {i : Instr} {base extra : Nat} (h : (i, base, extra) ∈ distanceRows) :
    1 ≤ base ∧ base + 2 ^ extra ≤ 32769 := by
  have hrows : ∀ r ∈ distanceRows, 1 ≤ r.2.1 ∧ r.2.1 + 2 ^ r.2.2 ≤ 32769 := by decide
  exact hrows _ h

/-- Settles O29: the distance assembled is in the window, and there the copy emits the bytes the history before it gives. -/
theorem distanceSymbolsCopy : Obligations.DistanceSymbolsCopy := by
  intro i base extra s hrow hwf h hlen
  obtain ⟨inp', hr, ha, hready⟩ := readOperand_value (o := ⟨base, extra⟩) (distanceRows_extra hrow) h hlen
  obtain ⟨hbase, htop⟩ := distanceRows_range hrow
  obtain ⟨hlow, hhigh⟩ := readOperand_range hr
  dsimp only at hr hlow hhigh
  have hcopy := copy_eq_emitAll (s := { s with input := inp' }) (hbase.trans hlow) (by omega) hwf s.len
  refine ⟨inp', ?_, ha, hready⟩
  rw [exec_of_mem_distanceRows hrow, distanceCode, hr, onInput_of_ok]
  dsimp only
  rw [hcopy]
  rfl

/-! ## Lengths (R112, R253, R259) -/

/-- A length symbol with its extra bits ahead assembles its length; the distance symbol follows where there is a code for it. -/
theorem lengthCode_of_ahead {o : Operand} {s : State} (ho : o.extra ≤ 16) (h : s.input.Ready s.params.inCap)
    (hlen : o.extra ≤ s.input.ahead.length) :
    ∃ inp', lengthCode o s =
        (if s.dist = .noCode then .next (fatal .noDistCode .empty { s with input := inp' })
        else .next { s with input := inp', len := o.base + packBits (s.input.ahead.take o.extra), phase := .distSymbol }) ∧
      inp'.ahead = s.input.ahead.drop o.extra ∧ inp'.Ready s.params.inCap := by
  obtain ⟨inp', hr, ha, hready⟩ := readOperand_value ho h hlen
  exact ⟨inp', by rw [lengthCode, hr, onInput_of_ok], ha, hready⟩

/-- Settles O28: the block has a distance code, so the length assembled is followed by the distance symbol. -/
theorem lengthSymbolsAssemble : Obligations.LengthSymbolsAssemble := by
  intro i base extra s hrow hdist h hlen
  obtain ⟨-, -, hextra⟩ := lengthRows_range hrow
  obtain ⟨inp', hrun, ha, hready⟩ := lengthCode_of_ahead (o := ⟨base, extra⟩) hextra h hlen
  exact ⟨inp', by rw [exec_of_mem_lengthRows hrow, hrun, if_neg hdist], ha, hready⟩

/-! ## The faults of a pair (R155, R159, R259, R260) -/

/-- Settles O30: extra bits cut short end the element whichever half of the pair it is, and a length whose bits are there is
assembled before the missing distance code is noticed. -/
theorem pairFaultsBeforeItsBytes : Obligations.PairFaultsBeforeItsBytes := by
  refine ⟨fun i base extra s hrow h hlen => ?cutShort, fun i base extra s hrow hdist h hlen => ?noCode⟩
  case cutShort =>
    rcases List.mem_append.mp hrow with hrow | hrow
    · obtain ⟨-, -, hextra⟩ := lengthRows_range hrow
      rw [exec_of_mem_lengthRows hrow, lengthCode]
      exact (readOperand_cutShort h hextra hlen).onInput _
    · rw [exec_of_mem_distanceRows hrow, distanceCode]
      exact (readOperand_cutShort h (distanceRows_extra hrow) hlen).onInput _
  case noCode =>
    obtain ⟨-, -, hextra⟩ := lengthRows_range hrow
    obtain ⟨inp', hrun, ha, -⟩ := lengthCode_of_ahead (o := ⟨base, extra⟩) hextra h hlen
    exact ⟨inp', by rw [exec_of_mem_lengthRows hrow, hrun, if_pos hdist], ha⟩

/-! ## The end of a block and the reserved symbols (R251, R256, R258) -/

/-- Settles O27: EOB's meaning is this state itself. -/
theorem endOfBlockClearsCodes : Obligations.EndOfBlockClearsCodes := fun _ => rfl

/-- Settles O31: the information is the symbol itself, save for DUMMY, whose number neither 30 nor 31 is. -/
theorem reservedSymbolsFault : Obligations.ReservedSymbolsFault := by
  refine fun s => ⟨fun sym _ => rfl, fun sym hsym => ?distance, rfl⟩
  case distance =>
    have hdummy : sym ≠ dummySym := by rcases hsym with rfl | rfl <;> decide
    rw [exec, execDistReserved, if_neg hdummy]

end Sys2Proof.Machine
end

section
/-! The READ of a CORE that decodes, from its acceptance to its answer (R300 to R304). -/

namespace Sys2Proof.Machine

/-! ## Draining (R302) -/

theorem bufSlice_min (buf : List Byte) (i n m : Nat) : bufSlice buf i (min n m) = (bufSlice buf i m).take n := by
  have hsplit := bufSlice_add buf i (min n m) (m - min n m)
  rw [Nat.add_sub_cancel' (Nat.min_le_right n m)] at hsplit
  rw [List.take_eq_take_min, bufSlice_length, hsplit, List.take_left' (bufSlice_length _ _ _)]

theorem bufSlice_behind_min (buf : List Byte) (i n m : Nat) :
    bufSlice buf (i + min n m) (m - min n m) = (bufSlice buf i m).drop n := by
  have hsplit := bufSlice_add buf i (min n m) (m - min n m)
  rw [Nat.add_sub_cancel' (Nat.min_le_right n m)] at hsplit
  rw [List.drop_eq_drop_min, bufSlice_length, hsplit, List.drop_left' (bufSlice_length _ _ _)]

section
variable (s : State)

theorem drain_rdResp_eq_take : (drain s).rdResp = s.rdResp ++ (stagedBytes s).take s.room := by
  rw [drain_rdResp, bufSlice_min, stagedBytes]

theorem drain_stagedBytes : stagedBytes (drain s) = (stagedBytes s).drop s.room := by
  obtain ⟨n, rfl, hd⟩ := drain_eq s
  rw [hd, stagedBytes, stagedBytes, ← bufSlice_behind_min, ← Nat.sub_add_eq]
  by_cases hall : s.stagePos + min s.room (s.stageLen - s.stagePos) = s.stageLen
  · simp [hall]
  · simp [hall]

/-- STAGE is not left drained with bytes counted in it (R81). -/
theorem drain_emptyTogether (h : (drain s).stagePos = (drain s).stageLen) : (drain s).stageLen = 0 := by
  obtain ⟨n, -, hd⟩ := drain_eq s
  rw [hd] at h ⊢
  by_cases hall : s.stagePos + n = s.stageLen
  · simp [hall]
  · simp [hall] at h

theorem drain_frame :
    drain s = { s with rdResp := (drain s).rdResp, stagePos := (drain s).stagePos, stageLen := (drain s).stageLen } := by
  obtain ⟨n, -, hd⟩ := drain_eq s
  rw [hd]

end

/-- Settles O35: the READ's room is its count, and the drain moves as many staged bytes. -/
theorem readDrainsStagedBytes : Obligations.ReadDrainsStagedBytes := by
  intro count s hcount hmode _
  refine ⟨_, (execCmdRead_of_decodes count hmode).trans (if_neg (by omega)), by simp, ?_, drain_stagedBytes _, by simp,
    drain_emptyTogether _, drain_frame _⟩
  rw [drain_rdResp_eq_take]
  rfl

/-- Where no READ is in progress a response is the one change it makes (R63). -/
theorem respond_of_idlePort {s : State} (hphase : s.phase = .command) (hcount : s.rdCount = 0) (hresp : s.rdResp = [])
    (r : Response) : respond r s = { s with responses := s.responses ++ [r] } := by
  rw [respond, ← hphase, ← hcount, ← hresp]

/-- Settles O34: READ 0 is answered at its acceptance, and the response is the one change. -/
theorem readZeroAnswersFromState : Obligations.ReadZeroAnswersFromState := by
  intro s hphase hcount hresp hmode
  rw [exec, execCmdRead_of_decodes 0 hmode, if_pos rfl, respond_of_idlePort hphase hcount hresp]
  simp only [State.atEos_iff]

/-! ## The READ's answer (R300, R304) -/

/-- The READ in progress in `s` is still unanswered in `u`, before READ's loop test: its response has only grown. -/
structure Unanswered (s u : State) : Prop where
  inRead : u.phase ≠ .command
  responses : u.responses = s.responses
  count : u.rdCount = s.rdCount
  grows : s.rdResp <+: u.rdResp
  fits : u.rdResp.length ≤ u.rdCount

section
variable {s u : State}

theorem emit_grows (b : Byte) (s : State) : s.rdResp <+: (emit b s).rdResp := by
  rw [emit_rdResp]
  exact List.prefix_append _ _

theorem copy_grows (dist len : Nat) (s : State) : s.rdResp <+: (copy dist len s).rdResp := by
  induction len generalizing s with
  | zero => exact List.prefix_refl _
  | succ n ih => exact (emit_grows _ s).trans (ih _)

/-- An element answers its READ with a fatal error alone (R304). -/
theorem ElementEnd.fault_or_unanswered (h : Running s) (he : ElementEnd s u) :
    (∃ c i fin, u = Machine.fatal c i { s with final := fin }) ∨ Unanswered s u := by
  have hfits := h.output.respFits
  have hemits : Emitting s := h.output.emitting h.empty
  cases he with
  | fault c i fin => exact .inl ⟨c, i, fin, rfl⟩
  | waits | storedBlock | dynamicBlock | storedOpened | sequence | codes | length =>
    exact .inr ⟨nofun, rfl, rfl, List.prefix_refl _, hfits⟩
  | fixedBlock | endOfBlock => exact .inr ⟨h.inRead, rfl, rfl, List.prefix_refl _, hfits⟩
  | storedByte b | literal b =>
    exact .inr ⟨by simpa using h.inRead, by simp, by simp, emit_grows b s, (hemits.emit b).respFits⟩
  | pair dist => exact .inr ⟨nofun, by simp, by simp, copy_grows dist _ s, (hemits.copy dist _).respFits⟩

/-- READ's loop test answers with what its response holds, where that is full or the stream has ended (R300). -/
theorem Unanswered.settle_cases (h : Unanswered s u) (hroom : 0 < s.room) :
    ((settle u).responses = s.responses ∧ settle u = u) ∨
      (∃ r, (settle u).phase = .command ∧ (settle u).responses = s.responses ++ [r] ∧
        ((r = .eos ∧ s.rdResp = [] ∧ (settle u).atEos = true) ∨
          r = .data u.rdResp ∧ u.rdResp ≠ [] ∧ (u.rdResp.length = s.rdCount ∨ (settle u).atEos = true))) := by
  obtain ⟨-, hresponses, hcount, hgrows, hfits⟩ := h
  rcases Machine.settle_cases u with ⟨-, hdone, ht⟩ | ⟨-, ht⟩ <;> rw [ht]
  · have heos : (answerRead u).atEos = u.atEos := rfl
    rw [State.room, hcount] at hdone
    rw [hcount] at hfits
    refine .inr ⟨_, rfl, congrArg (· ++ _) hresponses, ?_⟩
    rw [heos]
    by_cases hnone : u.rdResp = []
    · have hold : s.rdResp = [] := List.prefix_nil.mp (hnone ▸ hgrows)
      rw [hnone, List.length_nil] at hdone
      rw [State.room, hold, List.length_nil] at hroom
      exact .inl ⟨if_pos hnone, hold, hdone.resolve_left (by omega)⟩
    · exact .inr ⟨if_neg hnone, hnone, hdone.imp_left fun hfull => by omega⟩
  · exact .inl ⟨hresponses, rfl⟩

/-- A READ in progress is answered by a fatal error, or by READ's loop test. -/
theorem answer_of_step {t : State} {r : Response} (h : Inv s) (hphase : s.phase ≠ .command) (hstep : step s = .next t)
    (hr : t.responses = s.responses ++ [r]) :
    (∃ c i, r = .fault c i ∧ t.mode = .error ∧ t.err = ⟨c, i⟩) ∨ (r = .eos ∧ s.rdResp = [] ∧ t.atEos = true) ∨
      ∃ bs, r = .data bs ∧ bs ≠ [] ∧ s.rdResp <+: bs ∧ bs.length ≤ s.rdCount ∧
        (bs.length = s.rdCount ∨ t.atEos = true) := by
  by_cases hwaits : s.phase = .waiting
  · rw [step_of_waiting hwaits] at hstep
    obtain rfl := Host.Outcome.next.inj hstep
    simp at hr
  obtain ⟨f, hf⟩ := h.expectedFormat_some hphase hwaits
  have hin := expectedIn_of_expectedFormat hf
  obtain ⟨inp, u, hl, hleft, hend, rfl, -⟩ := step_element h hf hstep
  rcases hend.fault_or_unanswered (h.running hin hl hleft) with ⟨c, i, fin, rfl⟩ | hun
  · rw [settle_of_phase_ne (by simp)] at hr ⊢
    exact .inl ⟨c, i, by simpa using hr.symm, rfl, rfl⟩
  · have hgrows : s.rdResp <+: u.rdResp := hun.grows
    have hfits : u.rdResp.length ≤ s.rdCount := hun.count ▸ hun.fits
    rcases hun.settle_cases (h.room_pos hin) with ⟨hsame, -⟩ | ⟨r', -, hr', hans⟩
    · simp [hsame] at hr
    · obtain rfl : r' = r := by simpa [hr] using hr'.symm
      rcases hans with heos | ⟨rfl, hsome, hdone⟩
      · exact .inr (.inl heos)
      · exact .inr (.inr ⟨_, rfl, hsome, hgrows, hfits, hdone⟩)

end

/-! ## The READ's acceptance (R300 to R302) -/

@[simp] theorem settle_stagePos (s : State) : (settle s).stagePos = s.stagePos := by
  rcases settle_cases s with ⟨-, -, h⟩ | ⟨-, h⟩ <;> rw [h]
  rfl

@[simp] theorem settle_stageLen (s : State) : (settle s).stageLen = s.stageLen := by
  rcases settle_cases s with ⟨-, -, h⟩ | ⟨-, h⟩ <;> rw [h]
  rfl

@[simp] theorem settle_stagedBytes (s : State) : stagedBytes (settle s) = stagedBytes s := by
  rcases settle_cases s with ⟨-, -, h⟩ | ⟨-, h⟩ <;> rw [h]
  rfl

theorem stagedBytes_length (s : State) : (stagedBytes s).length = s.stageLen - s.stagePos := bufSlice_length _ _ _

/-- READ's loop test behind the drain: the response is full where as many bytes were staged, and the stream has ended where the last
block has and none was left staged (R292, R300). -/
theorem done_of_drained {s u : State} {count : Nat} (hresp : u.rdResp = (stagedBytes s).take count)
    (hstaged : stagedBytes u = (stagedBytes s).drop count) (hcur : u.stagePos ≤ u.stageLen)
    (hframe : u = { s with cmds := u.cmds, phase := .step, rdCount := count, rdResp := u.rdResp, stagePos := u.stagePos,
                           stageLen := u.stageLen }) :
    (u.room = 0 ∨ u.atEos = true) ↔ count ≤ (stagedBytes s).length ∨ s.mode = .idle ∧ s.final = true := by
  obtain ⟨hmode, hfinal, hcount⟩ : u.mode = s.mode ∧ u.final = s.final ∧ u.rdCount = count := by
    rw [hframe]
    exact ⟨rfl, rfl, rfl⟩
  have hleft := congrArg List.length hstaged
  rw [stagedBytes_length, List.length_drop] at hleft
  have hroom : u.room = 0 ↔ count ≤ (stagedBytes s).length := by
    rw [State.room, hcount, hresp, List.length_take]
    omega
  have heos : u.atEos = true ↔ s.mode = .idle ∧ s.final = true ∧ (stagedBytes s).length ≤ count := by
    rw [State.atEos_iff, hmode, hfinal]
    exact and_congr_right' (and_congr_right' (by omega))
  rw [hroom, heos]
  constructor
  · exact Or.imp_right fun ⟨hidle, hlast, _⟩ => ⟨hidle, hlast⟩
  · rintro (hfull | ⟨hidle, hlast⟩)
    · exact .inl hfull
    · exact (Nat.le_total count _).imp_right fun hall => ⟨hidle, hlast, hall⟩

/-- The step that accepts a READ drains the staged bytes and applies READ's loop test (R300, R302). -/
theorem step_of_read {s : State} {w : CmdWord} {rest : List CmdWord} (h : Inv s) (hphase : s.phase = .command)
    (hmode : s.mode.decodes = true) (hcmds : s.cmds = w :: rest) (hread : w.code = 0#2) (hcount : 1 ≤ w.count.toNat) :
    ∃ u, step s = .next (settle u) ∧ u.rdResp = (stagedBytes s).take w.count.toNat ∧
      stagedBytes u = (stagedBytes s).drop w.count.toNat ∧ u.stagePos ≤ u.stageLen ∧ (u.stagePos = u.stageLen → u.stageLen = 0) ∧
      u = { s with cmds := rest, phase := .step, rdCount := w.count.toNat, rdResp := u.rdResp, stagePos := u.stagePos,
                   stageLen := u.stageLen } := by
  obtain ⟨u, hexec, -, hresp, hstaged, -, htogether, hframe⟩ :=
    readDrainsStagedBytes w.count.toNat { s with cmds := rest } hcount hmode (h.withPort rest s.responses).stage
  have hstep : step s = .next (settle u) := by
    rw [step_of_command hphase hcmds, runValue_of_decode (decode_read hread), hexec]
    rfl
  have hcur := (stepKeepsInvariant s _ h hstep).stage.cursor
  rw [settle_stagePos, settle_stageLen] at hcur
  exact ⟨u, hstep, hresp, hstaged, hcur, htogether, hframe⟩

/-- Settles O36: an answer in a READ is a fatal error or READ's loop test; behind an acceptance's drain that test is decided by the
count, the staged bytes and FINAL. -/
theorem readFillsItsResponse : Obligations.ReadFillsItsResponse := by
  refine ⟨fun s t r h hphase hstep hr => ?answer,
    fun s w rest h hphase hmode hcmds hread => ⟨fun hzero => ?zero, fun hne => ?accept⟩⟩
  case answer =>
    rcases answer_of_step h hphase hstep hr with ⟨c, i, rfl, hfault⟩ | ⟨rfl, heos⟩ | ⟨bs, rfl, hdata⟩
    · exact hfault
    · exact heos
    · exact hdata
  case zero =>
    obtain ⟨hcount, hnone⟩ := h.phase.noCommand hphase
    have hz : w.count.toNat = 0 := by rw [hzero]; rfl
    rw [step_of_command hphase hcmds, runValue_of_decode (decode_read hread), hz,
      readZeroAnswersFromState { s with cmds := rest } hphase hcount hnone hmode, afterElement, settle_of_phase_ne (by simp [hphase])]
    simp only [State.atEos_iff]
  case accept =>
    have hcount : 1 ≤ w.count.toNat := Nat.pos_of_ne_zero fun hz => hne (BitVec.eq_of_toNat_eq hz)
    obtain ⟨hport, hnone⟩ := h.phase.noCommand hphase
    obtain ⟨u, hstep, hresp, hstaged, hcur, htogether, hframe⟩ := step_of_read h hphase hmode hcmds hread hcount
    have hphase' : u.phase = .step := by rw [hframe]
    have hcmds' : u.cmds = rest := by rw [hframe]
    have hdone := done_of_drained hresp hstaged hcur (by rw [hcmds']; exact hframe)
    refine ⟨settle u, hstep, by rw [settle_stagedBytes, hstaged], by simpa using htogether, ?_⟩
    rw [settle_stagePos, settle_stageLen, settle, if_pos hphase']
    split
    · next hends =>
      have hempty : u.rdResp = [] ↔ stagedBytes s = [] := by
        rw [hresp, List.take_eq_nil_iff]
        exact or_iff_right (by omega)
      rw [if_pos (hdone.mpr hends), answerRead, if_congr hempty rfl (congrArg _ hresp), hframe]
      exact respond_of_idlePort (s := { s with cmds := rest, stagePos := u.stagePos, stageLen := u.stageLen }) hphase hport hnone _
    · next hgoes =>
      rw [if_neg (hdone.not.mpr hgoes)]
      have hall : (stagedBytes s).length ≤ w.count.toNat := Nat.le_of_not_le fun hle => hgoes (.inl hle)
      rw [List.take_of_length_le hall] at hresp
      rwa [← hresp]

end Sys2Proof.Machine
end

section
/-! Over a source that answers, a READ in progress ends (R304, R359): a step waits on a silent source alone, and one that neither
answers nor waits takes a bit or more. -/

namespace Sys2Proof.Machine

/-! ## Where a step waits (R61) -/

/-- A read waits on a source that never answers alone (R61). -/
theorem Reader.silent_of_wait {α : Type} {P Q : Input → Prop} {cap n : Nat} {op : Input → InRes α} (h : Reader P Q cap n op)
    {inp inp' : Input} (hi : P inp) (hr : op inp = .wait inp') : inp.src.ending = .silent := by
  obtain ⟨-, -, hends⟩ := h.not_ok hi (.inr hr)
  rw [hr] at hends
  cases he : inp.src.ending <;> simp [he, InRes.ended] at hends ⊢

/-- A result that waits does so on a source with this end alone: one that never answers. -/
def WaitsOnSilence (e : SrcEnd) (r : Result) : Prop := ∀ t, r = .next t → t.phase = .waiting → e = .silent

theorem WaitsOnSilence.next {e : SrcEnd} {t : State} (h : t.phase ≠ .waiting) : WaitsOnSilence e (.next t) := by
  rintro _ ⟨⟩ hw
  exact absurd hw h

theorem WaitsOnSilence.fault {e : SrcEnd} (q : Fault) : WaitsOnSilence e (.fault q) := fun _ ht => nomatch ht

/-- A result behind a read waits in the read, or in what follows its value. -/
theorem WaitsOnSilence.onInput {α : Type} {P Q : Input → Prop} {cap n : Nat} {op : Input → InRes α} {s : State}
    {k : α → State → Result} (hop : Reader P Q cap n op) (hs : P s.input)
    (hk : ∀ a inp, op s.input = .ok a inp → Q inp → WaitsOnSilence inp.src.ending (k a { s with input := inp })) :
    WaitsOnSilence s.input.src.ending (onInput s (op s.input) k) := by
  intro t ht hw
  rcases onInput_next ht with ⟨a, inp, hr, hnext⟩ | ⟨c, i, inp, hr, rfl⟩ | ⟨inp, hr, rfl⟩
  · obtain ⟨hl, hQ, -⟩ := hop.ok hs hr
    rw [← hl.ending]
    exact hk a inp hr hQ t hnext hw
  · simp at hw
  · exact hop.silent_of_wait hs hr

theorem settle_phase (s : State) : (settle s).phase = s.phase ∨ (settle s).phase = .command := by
  rcases settle_cases s with ⟨-, -, h⟩ | ⟨-, h⟩ <;> rw [h]
  · exact .inr rfl
  · exact .inl rfl

/-- READ's loop test does not wait (R300). -/
theorem WaitsOnSilence.afterElement {e : SrcEnd} {r : Result} (h : WaitsOnSilence e r) : WaitsOnSilence e (afterElement r) := by
  cases r with
  | next u =>
    intro t ht hw
    obtain rfl : settle u = t := Host.Outcome.next.inj ht
    rcases settle_phase u with hp | hp
    · exact h u rfl (hp.symm.trans hw)
    · simp [hp] at hw
  | fault q | refused q => exact h

section
variable {s : State} (hphase : s.phase ≠ .waiting)
include hphase

theorem extendLengths_not_waiting (more : List Nat) : (extendLengths more s).phase ≠ .waiting := by
  rcases extendLengths_cases more s with ⟨-, hr⟩ | ⟨-, hr⟩ <;> rw [hr]
  · exact hphase
  · rcases adoptCodes_cases (s.dyn.lens ++ more) s with ⟨c, -, hr⟩ | ⟨tll, c, -, -, hr⟩ | ⟨tll, td, -, -, hr⟩ <;> simp [hr]

theorem repeatLength_not_waiting (r value : Nat) : (repeatLength r value s).phase ≠ .waiting := by
  rcases repeatLength_cases r value s with ⟨-, hr⟩ | ⟨-, hr⟩ <;> rw [hr]
  · simp
  · exact extendLengths_not_waiting hphase _

/-- A repeat symbol waits for its extra bits alone (R224 to R226). -/
theorem Repeats.waitsOnSilence {i : Instr} {o : Operand} {v : Nat} (h : Repeats s i o v) (hready : s.input.Ready s.params.inCap) :
    WaitsOnSilence s.input.src.ending (exec i s) := by
  rw [h.exec_eq]
  exact .onInput (readOperand_reader _ h.extra_le) hready fun r inp _ _ =>
    .next (repeatLength_not_waiting (s := { s with input := inp }) hphase _ _)

/-- An element waits for the bits its meaning reads alone (R61, R110, R221). -/
theorem exec_waitsOnSilence {f : Format} {v : Nat} {i : Instr} (hf : f ≠ .command)
    (hready : f ≠ .storedByte → s.input.Ready s.params.inCap) (hd : decode f v = .ok i) :
    WaitsOnSilence s.input.src.ending (exec i s) := by
  cases f with
  | blockHeader =>
    obtain ⟨b, rfl | rfl | rfl | rfl⟩ := decode_blockHeader hd
    · exact .next nofun
    · exact .next hphase
    · exact .next nofun
    · exact .next nofun
  | storedHeader =>
    obtain ⟨len, nlen, rfl⟩ := decode_storedHeader hd
    rw [exec, execStoredHeader]
    split
    · exact .next nofun
    · exact .next nofun
  | storedByte =>
    obtain ⟨b, rfl⟩ := decode_storedByte hd
    exact .next (by simpa using hphase)
  | dynamicHeader =>
    obtain ⟨hlit, hdist, hclen, rfl⟩ := decode_dynamicHeader hd
    rw [exec, execDynamicHeader]
    refine .onInput (readClLengths_reader _ _ _) (hready nofun) fun cl inp _ _ => ?_
    dsimp only
    split
    · exact .next nofun
    · exact .next nofun
  | clenSymbol =>
    rcases decode_clenSymbol hd with ⟨len, rfl⟩ | rfl | rfl | rfl
    · exact .next (extendLengths_not_waiting hphase _)
    · cases hlast : s.dyn.lens.getLast? with
      | none =>
        simp only [exec, execClRepeatPrev, hlast]
        exact .next nofun
      | some prev => exact (Repeats.prev hlast).waitsOnSilence hphase (hready nofun)
    · exact Repeats.zeroShort.waitsOnSilence hphase (hready nofun)
    · exact Repeats.zeroLong.waitsOnSilence hphase (hready nofun)
  | litlenSymbol =>
    rcases decode_litlenSymbol hd with ⟨b, rfl⟩ | rfl | ⟨sym, rfl⟩ | ⟨base, extra, hrow⟩
    · exact .next (by simpa using hphase)
    · exact .next hphase
    · exact .next nofun
    · obtain ⟨-, -, hextra⟩ := lengthRows_range hrow
      rw [exec_of_mem_lengthRows hrow]
      refine .onInput (readOperand_reader _ hextra) (hready nofun) fun len inp _ _ => ?_
      dsimp only
      split
      · exact .next nofun
      · exact .next nofun
  | distSymbol =>
    rcases decode_distSymbol hd with ⟨sym, rfl⟩ | ⟨base, extra, hrow⟩
    · exact .next nofun
    · rw [exec_of_mem_distanceRows hrow]
      exact .onInput (readOperand_reader _ (distanceRows_extra hrow)) (hready nofun) fun dist inp _ _ => .next nofun
  | command => exact absurd rfl hf

end

section
variable {s : State} {f : Format}

/-- A step of a READ in progress waits on a source that never answers alone (R61, R359). -/
theorem step_waitsOnSilence (h : Inv s) (hf : expectedFormat s = some f) : WaitsOnSilence s.input.src.ending (step s) := by
  have hin := expectedIn_of_expectedFormat hf
  rw [step_of_expectedFormat hf]
  refine .onInput (fetchValue_reader h hf) (s := s) h fun v inp _ hleft => ?_
  cases hd : decode f v with
  | error e => simpa only [runValue, hd] using .fault _
  | ok i =>
    rw [runValue_of_decode hd]
    refine (exec_waitsOnSilence (s := { s with input := inp }) hin.phase_ne.2 ?_ (fun hne => ?_) hd).afterElement
    · rintro rfl
      exact hin
    · rwa [State.Left, if_neg fun hs => hne ((storedByte_of_expected hin).mpr hs)] at hleft

/-- Over a source that answers, a step of a READ in progress answers it, or takes a bit or more and leaves it in progress. -/
theorem step_answers_or_reads (h : Inv s) (hf : expectedFormat s = some f) (hanswers : s.input.src.ending ≠ .silent) :
    ∃ t, step s = .next t ∧ Inv t ∧
      ((t.phase = .command ∧ ∃ r, t.responses = s.responses ++ [r]) ∨
        (t.phase ≠ .command ∧ t.phase ≠ .waiting ∧ t.responses = s.responses ∧ t.input.src.ending = s.input.src.ending ∧
          t.input.ahead.length < s.input.ahead.length)) := by
  have hin := expectedIn_of_expectedFormat hf
  obtain ⟨t, hstep⟩ := stepNeverStops s h
  have hinv := stepKeepsInvariant s t h hstep
  have hwaits : t.phase ≠ .waiting := fun hw => hanswers (step_waitsOnSilence h hf t hstep hw)
  refine ⟨t, hstep, hinv, ?_⟩
  obtain ⟨inp, u, hl, hleft, hend, rfl, hless⟩ := step_element h hf hstep
  have hrun := h.running hin hl hleft
  rcases hend.fault_or_unanswered hrun with ⟨c, i, fin, rfl⟩ | hun
  · rw [settle_of_phase_ne (by simp)]
    exact .inl ⟨rfl, _, rfl⟩
  rcases hun.settle_cases (h.room_pos hin) with ⟨hsame, ht⟩ | ⟨r, hphase, hr, -⟩
  · rw [ht] at hinv hwaits hsame ⊢
    have herror : u.mode ≠ .error := fun he => hun.inRead (hinv.command_of_error he)
    have hl' : s.input.Leads s.params.inCap u.input := hl.trans (hend.leads hrun herror)
    have hshort := (hend.leads hrun herror).suffix.length_le
    have hless := (hless.resolve_left herror).resolve_left hwaits
    exact .inr ⟨hun.inRead, hwaits, hsame, hl'.ending, lt_of_le_of_lt hshort hless⟩
  · exact .inl ⟨hphase, r, hr⟩

end

/-- Settles O58: by induction on the bits left, as a step that does not answer the READ takes one. -/
theorem everyReadIsAnswered : Obligations.EveryReadIsAnswered := by
  intro s
  induction hn : s.input.ahead.length using Nat.strong_induction_on generalizing s with
  | _ n ih =>
    intro h hphase hwaits hanswers
    subst hn
    obtain ⟨f, hf⟩ := h.expectedFormat_some hphase hwaits
    obtain ⟨t, hstep, hinv, ⟨hdone, r, hr⟩ | ⟨hphase', hwaits', hsame, hending, hless⟩⟩ := step_answers_or_reads h hf hanswers
    · exact ⟨1, t, r, Nat.le_add_left _ _, run_succ 0 hstep, hdone, hr⟩
    · obtain ⟨k, t', r, hk, hrun, hdone, hr⟩ := ih _ hless t rfl hinv hphase' hwaits' (hending ▸ hanswers)
      exact ⟨k + 1, t', r, by omega, (run_succ k hstep).trans hrun, hdone, by rw [hr, hsame]⟩

end Sys2Proof.Machine
end

section
/-! DETACH, passthrough READs, ATTACH and CLOSE (R310 to R322): what CORE holds is handed on as bytes, or handed back. -/

namespace Sys2Proof.Machine

/-! ## The bytes CORE holds (R161, R322) -/

/-- The whole bytes of ACC are the next ones (R322). -/
theorem drainAcc_ahead {n : Nat} {inp : Input} (h : 8 * n ≤ inp.accN) :
    inp.ahead = streamBits (drainAcc n inp).1 ++ (drainAcc n inp).2.ahead := by
  induction n generalizing inp with
  | zero => rfl
  | succ n ih =>
    have hrest := ih (inp := inp.dropBits 8) (by simp only [Input.dropBits]; omega)
    rw [Input.ahead_of_accByte (by omega), hrest, ← List.append_assoc, ← streamBits_cons]
    rfl

/-- Behind ACC, INBUF's bytes from its read cursor on are the next ones (R38, R322). -/
theorem Input.ahead_of_bufSlice {n : Nat} {inp : Input} (hacc : inp.accN = 0 ∨ n = 0) (hn : n ≤ inp.inFill - inp.inPos) :
    inp.ahead = streamBits (bufSlice inp.inbuf inp.inPos n) ++ { inp with inPos := inp.inPos + n }.ahead := by
  rcases hacc with hacc | rfl
  · have hsplit := bufSlice_add inp.inbuf inp.inPos n (inp.inFill - inp.inPos - n)
    rw [Nat.add_sub_cancel' hn, Nat.sub_sub] at hsplit
    simp [Input.ahead_eq, Input.buffered, hacc, hsplit, bitsLsbFirst]
  · rfl

/-- Held bytes are handed on in order, and the stream goes on behind them (R322). -/
theorem drainBuffered_ahead (count : Nat) {inp : Input} (halign : inp.accN % 8 = 0) :
    inp.ahead = streamBits (drainBuffered count inp).1 ++ (drainBuffered count inp).2.ahead := by
  obtain ⟨hlen, hleft⟩ := drainAcc_eq (min count (inp.accN / 8)) inp
  have hacc : (drainAcc (min count (inp.accN / 8)) inp).2.accN = inp.accN - 8 * min count (inp.accN / 8) := by
    rw [hleft]
    rfl
  rw [drainAcc_ahead (n := min count (inp.accN / 8)) (by omega),
    Input.ahead_of_bufSlice (n := min (count - min count (inp.accN / 8)) _) (by omega) (Nat.min_le_right _ _), ← List.append_assoc,
    ← streamBits_append]
  simp only [drainBuffered, hlen]

/-- CORE holds nothing in whole bytes exactly where ACC and INBUF are empty. -/
theorem Input.unconsumed_eq_zero {cap : Nat} {inp : Input} (hs : inp.Sound cap) (halign : inp.accN % 8 = 0) :
    inp.unconsumed = 0 ↔ inp.accN = 0 ∧ inp.inPos = inp.inFill := by
  have := hs.cursor
  rw [Input.unconsumed]
  omega

/-- At a byte boundary the bits ahead are those of the bytes CORE holds and of the source's (R161). -/
theorem Input.ahead_length_of_aligned {inp : Input} (halign : inp.accN % 8 = 0) (hd : inp.direct = []) :
    inp.ahead.length = 8 * (inp.unconsumed + inp.src.rest.length) := by
  rw [Input.ahead_length, Input.unconsumed, hd, List.length_nil]
  omega

/-- Where CORE holds nothing all that is ahead is at the source. -/
theorem Input.ahead_of_nothing_held {inp : Input} (hacc : inp.accN = 0) (hempty : inp.inPos = inp.inFill) (hd : inp.direct = []) :
    inp.ahead = streamBits inp.src.rest := by
  simp [Input.ahead_eq, Input.buffered, hacc, hempty, hd, bitsLsbFirst]

/-- Bytes that are the next ones are so many bits ahead, and what comes behind them is the rest. -/
theorem Input.take_drop_ahead {inp inp' : Input} {bs : List Byte} (h : inp.ahead = streamBits bs ++ inp'.ahead) :
    streamBits bs = inp.ahead.take (8 * bs.length) ∧ inp'.ahead = inp.ahead.drop (8 * bs.length) := by
  rw [h, List.take_left' (streamBits_length bs), List.drop_left' (streamBits_length bs)]
  exact ⟨rfl, rfl⟩

/-! ## The rewind (R313) -/

/-- The bytes CORE holds have come from the source last: handed back, they are the ones it gives next (R64, R313). -/
theorem Input.Coherent.unread_ahead {cap : Nat} {inp : Input} (hc : inp.Coherent) (hs : inp.Sound cap)
    (halign : inp.accN % 8 = 0) (hd : inp.direct = []) :
    streamBits (srcUnread inp.unconsumed inp.src).rest = inp.ahead := by
  have hdel := hs.delivered
  have hrecv := hs.received
  have hend := hs.sourceEnd
  have hheld : inp.unconsumed ≤ inp.src.pos := by
    rw [Input.unconsumed]
    omega
  have hlen : (streamBits (srcUnread inp.unconsumed inp.src).rest).length = inp.ahead.length := by
    rw [Input.ahead_length_of_aligned halign hd, streamBits_length, Source.rest_length, Source.rest_length]
    simp only [srcUnread]
    omega
  have hsuffix : streamBits (srcUnread inp.unconsumed inp.src).rest <:+ streamBits inp.src.data := Source.rest_suffix _
  exact (List.suffix_of_suffix_length_le hsuffix hc hlen.le).eq_of_length hlen

section
variable {s : State}

/-- DETACH in a mode that decodes hands the stream over at the next byte boundary (R310 to R313). -/
theorem exec_detach_of_decodes (h : Inv s) (hmode : s.mode.decodes = true) :
    exec .cmdDetach s = .next (respond .done (if s.params.rewindCapable then detachRewind (detachCommon s)
      else detachPassthrough (detachCommon s))) := by
  rw [exec, execCmdDetach_of_live (Mode.ne_of_decodes hmode rfl) (Mode.ne_of_decodes hmode rfl), h.mode.attached hmode]
  rfl

/-- Settles O39: the bytes held are as many as are handed back, and the source's next bits are then those that were ahead. -/
theorem detachRewindsToFirstUnconsumedByte : Obligations.DetachRewindsToFirstUnconsumedByte := by
  intro s h hc hphase hmode hrewind
  obtain ⟨hcount, hnone⟩ := h.phase.noCommand hphase
  have hd := h.noDirect_of_command hphase
  obtain ⟨hahead, halign, hsound, -⟩ := alignDropsPartialByte s.params.inCap s.input h.input
  have hl : s.input.Leads s.params.inCap (alignToByte s.input) := .alignToByte h.input (h.filled_of_decodes hmode)
  have hheld : (alignToByte s.input).unconsumed = s.input.unconsumed := by
    simp only [Input.unconsumed, alignToByte]
    omega
  refine ⟨(detachRewind (detachCommon s)).input, ?_, ?_, ?_, rfl, rfl, rfl, rfl, rfl, ?_⟩
  · rw [exec_detach_of_decodes h hmode, if_pos hrewind]
    exact congrArg _ (respond_of_idlePort (s := detachRewind (detachCommon s)) hphase hcount hnone .done)
  · rw [← hahead]
    exact (hl.coherent hc).unread_ahead hsound halign hd
  · rw [← hheld]
    rfl
  · simp [Input.streamPos, alignToByte, hd]

/-- Settles O38: alignment takes the bits of the partial byte, and everything CORE holds behind it stays. -/
theorem detachKeepsUnconsumedBytes : Obligations.DetachKeepsUnconsumedBytes := by
  intro s h hphase hmode hrewind
  obtain ⟨hcount, hnone⟩ := h.phase.noCommand hphase
  obtain ⟨hahead, halign, -⟩ := alignDropsPartialByte s.params.inCap s.input h.input
  refine ⟨alignToByte s.input, ?_, hahead, halign, rfl⟩
  rw [exec_detach_of_decodes h hmode, if_neg (by simp [hrewind])]
  exact congrArg _ (respond_of_idlePort (s := detachPassthrough (detachCommon s)) hphase hcount hnone .done)

end

/-- A CORE whose source can be rewound, with half a byte and a whole one in ACC, one in INBUF and one at the source to come. -/
def rewindable : State :=
  { State.construct ⟨4096, 9, true, false⟩ Source.empty [] with
    input := ⟨0xABC#64, 12, [0x77#8], 1, 0, [], 3, ⟨[0xC0#8, 0xAB#8, 0x77#8, 0x01#8], 3, [], .endOfData, [], false⟩⟩ }

/-- It meets what `Obligations.DetachRewindsToFirstUnconsumedByte` supposes, and DETACH hands its two whole bytes back. -/
theorem rewindable_witness : Inv rewindable ∧ rewindable.input.Coherent ∧ rewindable.mode.decodes = true ∧
    ∃ t, exec .cmdDetach rewindable = .next t ∧ t.input.src.rest = [0xAB#8, 0x77#8, 0x01#8] := by
  have hsound : rewindable.input.Sound rewindable.params.inCap :=
    ⟨by decide, by decide, by decide, by decide, by decide, by decide, by decide, by decide⟩
  have hcodes : rewindable.CodesOk := (State.codesOk_of_not_huff (by decide)).mpr ⟨rfl, rfl⟩
  have hout : rewindable.OutputOk :=
    ⟨le_refl _, Nat.zero_le _, fun _ => rfl, le_refl _, fun _ => rfl, le_refl _, Nat.zero_le _⟩
  have hdec : Decoding rewindable :=
    ⟨⟨by decide, by decide, by decide⟩, hsound, le_refl _, rfl, hcodes, rfl, rfl, rfl, nofun, fun _ => rfl, hout⟩
  exact ⟨hdec.inv (.ofCommand rfl rfl rfl rfl rfl rfl) fun hne => absurd rfl hne,
    ⟨[false, false, false, false], by decide⟩, rfl, _, rfl, rfl⟩

/-! ## Passthrough READs (R322) -/

theorem drainBuffered_length (count : Nat) (inp : Input) : (drainBuffered count inp).1.length = min count inp.unconsumed := by
  rw [(drainBuffered_eq count inp).1, Input.unconsumed]
  omega

/-- Where CORE holds nothing there is nothing to drain. -/
theorem drainBuffered_of_nothing_held (count : Nat) {inp : Input} (hheld : inp.unconsumed = 0) :
    (drainBuffered count inp).1 = [] := by
  rw [← List.length_eq_zero_iff, drainBuffered_length, hheld, Nat.min_zero]

/-- A request's bytes are the next ones where CORE holds nothing (R60, R322). -/
theorem Input.request_of_nothing_held {m : Nat} {inp : Input} (hm : 1 ≤ m) (hacc : inp.accN = 0) (hempty : inp.inPos = inp.inFill)
    (hd : inp.direct = []) (hrest : inp.src.rest ≠ []) :
    ∃ bs inp', inp.request m = (.data bs, inp') ∧ 1 ≤ bs.length ∧ bs.length ≤ m ∧ inp.ahead = streamBits bs ++ inp'.ahead ∧
      inp'.src.txns = inp.src.txns ++ [.request m] := by
  obtain ⟨k, hone, hle, hlen, hreq⟩ := Input.request_of_rest hm hrest
  have hk : (inp.src.rest.take k).length = k := List.length_take_of_le hlen
  have hbehind : { inp with recv := inp.recv + k, src := inp.src.answered m k }.ahead = streamBits (inp.src.rest.drop k) := by
    rw [← Source.answered_rest inp.src m k]
    exact Input.ahead_of_nothing_held (inp := { inp with recv := inp.recv + k, src := inp.src.answered m k }) hacc hempty hd
  refine ⟨_, _, hreq, by omega, by omega, ?_, rfl⟩
  rw [hbehind, Input.ahead_of_nothing_held hacc hempty hd, ← streamBits_append, List.take_append_drop]

section
variable {s : State} {count : Nat} (hcount : 1 ≤ count)
include hcount

/-- A passthrough READ gives what CORE holds alone while that is not used up (R322). -/
theorem passRead_of_held (hheld : 0 < s.input.unconsumed) :
    passRead count s = .next (respond (.data (drainBuffered count s.input).1) { s with input := (drainBuffered count s.input).2 }) := by
  have hsome : (drainBuffered count s.input).1 ≠ [] := by
    rw [← List.length_pos_iff, drainBuffered_length]
    omega
  simp only [passRead, Nat.ne_of_gt hcount, if_false, if_pos hsome]

/-- Where CORE holds nothing a passthrough READ makes one request and passes its bytes on (R322). -/
theorem passRead_of_data (hheld : s.input.unconsumed = 0) {bs : List Byte} {inp : Input}
    (hreq : s.input.request count = (.data bs, inp)) : passRead count s = .next (respond (.data bs) { s with input := inp }) := by
  simp only [passRead, Nat.ne_of_gt hcount, if_false, drainBuffered_of_nothing_held count hheld, ne_eq, not_true_eq_false, hreq]

/-- Where CORE holds nothing and the source has ended a passthrough READ ends as the source does (R61, R322, R345). -/
theorem passRead_of_end (hheld : s.input.unconsumed = 0) (hrest : s.input.src.rest = []) :
    passRead count s = match s.input.src.ending with
      | .endOfData => .next (respond .eos { s with input := s.input.askedInVain count })
      | .ioError p => .next (fatal .io (.payload p) { s with input := s.input.askedInVain count })
      | .silent => .next { s with input := s.input.askedInVain count, phase := .waiting } := by
  have hreq := Input.request_of_rest_nil (m := count) hrest
  cases he : s.input.src.ending <;> rw [he] at hreq <;>
    simp only [passRead, Nat.ne_of_gt hcount, if_false, drainBuffered_of_nothing_held count hheld, ne_eq, not_true_eq_false, hreq]

end

/-- Settles O37: what CORE holds is drained first, and else the source's answer to one request is passed on. -/
theorem passthroughReadForwards : Obligations.PassthroughReadForwards := by
  intro count s h hmode hphase
  obtain ⟨hport, hnone⟩ := h.phase.noCommand hphase
  have halign : s.input.accN % 8 = 0 := h.mode.aligned (.inr (.inl hmode))
  have hd := h.noDirect_of_command hphase
  have hread : ∀ n, exec (.cmdRead n) s = passRead n s := fun n => by simp only [exec, execCmdRead, hmode]
  have hanswer : ∀ r inp, respond r { s with input := inp } = { s with input := inp, responses := s.responses ++ [r] } :=
    fun r inp => respond_of_idlePort (s := { s with input := inp }) hphase hport hnone r
  refine ⟨fun _ => ?zero, fun hcount hheld => ?held, fun hcount hheld hrest => ?asked, fun hcount hheld hrest => ?ended⟩
  case zero =>
    rw [hread]
    exact congrArg _ (respond_of_idlePort hphase hport hnone .zero)
  case held =>
    obtain ⟨hbits, hbehind⟩ := Input.take_drop_ahead (drainBuffered_ahead count halign)
    refine ⟨_, _, by rw [hread, passRead_of_held hcount hheld, hanswer], drainBuffered_length _ _, hbits, hbehind, ?_⟩
    rw [(drainBuffered_eq count s.input).2]
    rfl
  case asked =>
    obtain ⟨hacc, hempty⟩ := (Input.unconsumed_eq_zero h.input halign).mp hheld
    obtain ⟨bs, inp', hreq, hone, hle, hahead, htxns⟩ := Input.request_of_nothing_held hcount hacc hempty hd hrest
    obtain ⟨hbits, hbehind⟩ := Input.take_drop_ahead hahead
    exact ⟨bs, inp', by rw [hread, passRead_of_data hcount hheld hreq, hanswer], hone, hle, hbits, hbehind, htxns⟩
  case ended =>
    refine ⟨s.input.askedInVain count, rfl, ?_⟩
    rw [hread, passRead_of_end hcount hheld hrest]
    cases s.input.src.ending with
    | endOfData => exact congrArg _ (hanswer .eos _)
    | ioError p | silent => rfl

/-! ## ATTACH and CLOSE (R315, R316, R320, R321) -/

/-- Settles O40: the content left in STAGE is the model's empty list. -/
theorem attachResetsDecodeState : Obligations.AttachResetsDecodeState := by
  intro s hmode hphase hcount hnone
  refine ⟨[], ?_⟩
  simp only [exec, execCmdAttach, hmode]
  exact congrArg _ (respond_of_idlePort (s := attachReset s) hphase hcount hnone .done)

theorem exec_close_of_open {s : State} (hmode : s.mode ≠ .closed) : exec .cmdClose s = .next (respond .done (closeCore s)) := by
  rw [exec, execCmdClose]
  split
  · contradiction
  all_goals rfl

/-- Settles O41: the first CLOSE releases the buffers, and a later one only answers. -/
theorem closeIsIdempotent : Obligations.CloseIsIdempotent := by
  refine fun s hphase hcount hnone => ⟨fun hmode => ?closed, fun hmode => ?first⟩
  case closed =>
    have hexec : exec .cmdClose s = .next (respond .done s) := by simp only [exec, execCmdClose, hmode]
    rw [hexec, respond_of_idlePort hphase hcount hnone]
  case first =>
    refine ⟨_, exec_close_of_open hmode, ?_⟩
    simp

end Sys2Proof.Machine
end

section
/-! The fatal error and the two ends it and CLOSE bring (R345 to R347, R350 to R353): a terminated or closed CORE answers every
command without data and without its source. -/

namespace Sys2Proof.Machine

section
variable {s t u : State} {i : Instr}

/-! ## The answers in ERROR and CLOSED (R346, R350) -/

theorem exec_of_error {count : Nat} (hi : i = .cmdRead count ∨ i = .cmdDetach ∨ i = .cmdAttach) (hmode : s.mode = .error) :
    exec i s = .next (respond (.fault s.err.code s.err.info) s) := by
  rcases hi with rfl | rfl | rfl
  · exact execCmdRead_of_error count hmode
  · simp only [exec, execCmdDetach, hmode]
  · simp only [exec, execCmdAttach, hmode]

theorem exec_of_closed {count : Nat} (hi : i = .cmdRead count ∨ i = .cmdDetach ∨ i = .cmdAttach) (hmode : s.mode = .closed) :
    exec i s = .next (respond (.fault .useClosed .empty) s) := by
  rcases hi with rfl | rfl | rfl
  · simp only [exec, execCmdRead, hmode]
  · simp only [exec, execCmdDetach, hmode]
  · simp only [exec, execCmdAttach, hmode]

theorem exec_close_of_closed (hmode : s.mode = .closed) : exec .cmdClose s = .next (respond .done s) := by
  simp only [exec, execCmdClose, hmode]

/-! ## No data after an end (R345 to R347, R350) -/

/-- CORE has ended: a fatal error has terminated it, or it is closed. -/
def State.Ended (s : State) : Prop := s.mode = .error ∨ s.mode = .closed

/-- CORE has ended in `t`, and from `s` on it has asked its source nothing and given no data. -/
structure GivesNoData (s t : State) : Prop where
  ended : t.Ended
  txns : t.input.src.txns = s.input.src.txns
  responses : ∃ rs, t.responses = s.responses ++ rs ∧ ∀ r ∈ rs, r.isData = false

theorem GivesNoData.refl (h : s.Ended) : GivesNoData s s := ⟨h, rfl, [], (List.append_nil _).symm, nofun⟩

theorem GivesNoData.trans (h : GivesNoData s t) (h' : GivesNoData t u) : GivesNoData s u := by
  obtain ⟨rs, hrs, hnone⟩ := h.responses
  obtain ⟨rs', hrs', hnone'⟩ := h'.responses
  refine ⟨h'.ended, h'.txns.trans h.txns, rs ++ rs', by rw [hrs', hrs, List.append_assoc], fun r hr => ?_⟩
  exact (List.mem_append.mp hr).elim (hnone r) (hnone' r)

/-- The response to a command is the last thing given. -/
theorem GivesNoData.respond {r : Response} (hr : r.isData = false) (h : GivesNoData s t) : GivesNoData s (respond r t) :=
  h.trans ⟨h.ended, rfl, [r], rfl, by simpa using hr⟩

/-- CLOSE keeps the record of the source's requests (R320). -/
theorem GivesNoData.closeCore (s : State) : GivesNoData s (closeCore s) :=
  ⟨.inr rfl, rfl, [], (List.append_nil _).symm, nofun⟩

/-- The invariant leaves a CORE that has ended no command in progress. -/
theorem Inv.command_of_ended (h : Inv s) (hended : s.Ended) : s.phase = .command := by
  have hdecodes : s.mode.decodes = false := by rcases hended with hm | hm <;> rw [hm] <;> rfl
  by_contra hphase
  by_cases hwaits : s.phase = .waiting
  · rcases h.phase.waits hwaits with hd | hm
    · simp [hd] at hdecodes
    · rcases hended with hm' | hm' <;> simp [hm'] at hm
  · obtain ⟨f, hf⟩ := h.expectedFormat_some hphase hwaits
    simp [h.decodes_of_expected (expectedIn_of_expectedFormat hf)] at hdecodes

/-- A CORE that has ended answers a command without data, CLOSE having its effect first where it has one. -/
theorem exec_of_ended {v : Nat} (hd : decode .command v = .ok i) (hended : s.Ended) :
    ∃ r u, exec i s = .next (respond r u) ∧ r.isData = false ∧ GivesNoData s u := by
  have hfault : ∀ count, i = .cmdRead count ∨ i = .cmdDetach ∨ i = .cmdAttach →
      ∃ r u, exec i s = .next (respond r u) ∧ r.isData = false ∧ GivesNoData s u := fun count hi =>
    hended.elim (fun hm => ⟨_, _, exec_of_error hi hm, rfl, .refl hended⟩)
      (fun hm => ⟨_, _, exec_of_closed hi hm, rfl, .refl hended⟩)
  rcases decode_command hd with ⟨count, -, rfl⟩ | rfl | rfl | rfl
  · exact hfault count (.inl rfl)
  · exact hfault 0 (.inr (.inl rfl))
  · exact hfault 0 (.inr (.inr rfl))
  · by_cases hclosed : s.mode = .closed
    · exact ⟨_, _, exec_close_of_closed hclosed, rfl, .refl hended⟩
    · exact ⟨_, _, exec_close_of_open hclosed, rfl, .closeCore s⟩

theorem step_of_ended (h : Inv s) (hended : s.Ended) (hstep : step s = .next t) : GivesNoData s t := by
  have hphase := h.command_of_ended hended
  cases hcmds : s.cmds with
  | nil =>
    rw [step_of_no_command hphase hcmds] at hstep
    obtain rfl := Host.Outcome.next.inj hstep
    exact .refl hended
  | cons w rest =>
    rw [step_of_command hphase hcmds] at hstep
    obtain ⟨i, u, hd, he, rfl⟩ := runValue_next hstep
    obtain ⟨r, v, hexec, hr, hnone⟩ := exec_of_ended (s := { s with cmds := rest }) hd hended
    obtain rfl := Host.Outcome.next.inj (hexec.symm.trans he)
    have hgives : GivesNoData s v := ⟨hnone.ended, hnone.txns, hnone.responses⟩
    rw [settle_of_phase_ne (by simp)]
    exact hgives.respond hr

theorem run_of_ended {k : Nat} (h : Inv s) (hended : s.Ended) (hrun : Host.Core.run core k s = .next t) : GivesNoData s t := by
  induction k generalizing s with
  | zero =>
    obtain rfl := Host.Outcome.next.inj hrun
    exact .refl hended
  | succ k ih =>
    obtain ⟨u, hstep⟩ := stepNeverStops s h
    have hnone := step_of_ended h hended hstep
    rw [run_succ k hstep] at hrun
    exact hnone.trans (ih (stepKeepsInvariant s u h hstep) hnone.ended hrun)

end

/-- Settles O56, by induction on the steps: each one leaves CORE ended and answers its command without data. -/
theorem noDataAfterAnError : Obligations.NoDataAfterAnError := by
  intro k s t h hended hrun
  obtain ⟨hstill, htxns, hresponses⟩ := run_of_ended h hended hrun
  exact ⟨hstill, htxns, hresponses⟩

/-- Settles O42: with no READ in progress the answer is the one change. -/
theorem errorAndClosedAnswersChangeNothing : Obligations.ErrorAndClosedAnswersChangeNothing := by
  intro count i s hi hphase hcount hresp
  have hanswer := respond_of_idlePort hphase hcount hresp
  refine ⟨fun herror => ?error, fun hclosed => ⟨?closed, ?close⟩⟩
  case error => rw [exec_of_error hi herror, hanswer]
  case closed => rw [exec_of_closed hi hclosed, hanswer]
  case close => rw [exec_close_of_closed hclosed, hanswer]

/-! ## What raises an error, and what an error does (R345, R351 to R353) -/

/-- Settles O43: each command's check of MODE and DETACHED precedes its effect. -/
theorem usageErrorsAreFatal : Obligations.UsageErrorsAreFatal := by
  intro s
  refine ⟨?attach, ?detach, ?read⟩
  case attach =>
    intro hmode
    rw [exec, execCmdAttach]
    cases hm : s.mode with
    | idle | stored | huff | released => rfl
    | error | passthru | closed => simp [hm, Mode.decodes] at hmode
  case detach =>
    intro hclosed herror hdetached
    rw [exec, execCmdDetach_of_live herror hclosed, if_pos hdetached]
  case read =>
    intro count hmode
    simp only [exec, execCmdRead, hmode]

/-- Settles O33: each clause is `fatal`'s law for that register. -/
theorem fatalTerminates : Obligations.FatalTerminates := by
  intro c i s
  simp

end Sys2Proof.Machine
end

section
/-! The state a construction makes (R53, R381). -/

namespace Sys2Proof.Machine

/-- The empty window holds at every address what R272 says of a byte never written. -/
@[simp] theorem Memory.read_nil (a : Nat) : Memory.read [] a = Config.tooFar := rfl

/-- Settles O44: the construction assigns every register its value outright, and no byte of its window has been written. -/
theorem resetValues : Obligations.ResetValues := by
  intro p src cmds s
  have hwin : ∀ a, a < 32768 → s.win.read a = 0#8 := fun a _ => Memory.read_nil a
  exact ⟨rfl, rfl, rfl, rfl, rfl, rfl, rfl, rfl, rfl, hwin, rfl, rfl, rfl, rfl, rfl, rfl, rfl⟩

end Sys2Proof.Machine
end
